-- ==== Sys2Proof/Word.lean ====
section
/-! DEFINITION. The word types of the display block and its plainest arithmetic (00_scope R6). -/

namespace Sys2Proof

/-- A byte: 8 bits, bit 7 the most significant (00_scope R6). -/
abbrev Byte := BitVec 8

/-- The level of a pin: `true` is level 1, `false` level 0 (00_scope R8). -/
abbrev Level := Bool

/-- `ceil(a / b)` on naturals, as 00_scope R6 defines it. -/
def ceilDiv (a b : Nat) : Nat := (a + b - 1) / b

end Sys2Proof
end

