-- ==== Sys2Proof/Config.lean ====
section
/-! DEFINITION. The configuration the model takes (00_scope R5), the constants the source fixes, and the free
values. Every parameter the spec leaves open is a field of `Config`; a `Config` stands in every state, so that a
statement about all states is a statement about all configurations (log 1). -/

namespace Sys2Proof

/-- The ColorMode, a closed variant (30_encoding R67). -/
inductive ColorMode where
  | oneBit
  | fourLevel
  deriving DecidableEq, Repr

/-- The wire events of 00_scope R8. One event is one step of the sequencer. -/
inductive WireEvent where
  /-- drive the reset output -/
  | rst (l : Level)
  /-- drive the data/command-select output -/
  | dc (l : Level)
  /-- drive the chip-select output -/
  | cs (l : Level)
  /-- one byte by a single-byte write -/
  | tx (b : Byte)
  /-- a byte list by one bulk write -/
  | txb (bs : List Byte)
  /-- one sample of the busy-sense input, with the level it returned -/
  | busy (l : Level)
  /-- a delay of at least that many milliseconds -/
  | delay (ms : Nat)
  /-- release the bus -/
  | busClose
  /-- release all pin claims -/
  | pinsRelease
  /-- claim the bus -/
  | busOpen
  /-- configure the four pins -/
  | pinCfg
  deriving DecidableEq, Repr

/-- The opcode bytes `OP_*` of the 22 panel commands (40_wire_framing R99): open parameters. -/
structure Opcodes where
  swReset : Byte
  autoWriteRed : Byte
  autoWriteBw : Byte
  gateSetting : Byte
  gateVoltage : Byte
  sourceVoltage : Byte
  dataEntryMode : Byte
  borderWaveform : Byte
  boosterStrength : Byte
  tempSensor : Byte
  vcom : Byte
  displayOption : Byte
  ramXWindow : Byte
  ramYWindow : Byte
  displayUpdateControl2 : Byte
  setRamXCounter : Byte
  setRamYCounter : Byte
  writeRamBw : Byte
  writeRamRed : Byte
  writeLut : Byte
  masterActivation : Byte
  deepSleep : Byte
  deriving DecidableEq, Repr

/-- The 22 opcode bytes in the order of the table of 40_wire_framing R99, but that WRITE_LUT stands before
MASTER_ACTIVATION as it does there. -/
def Opcodes.toList (o : Opcodes) : List Byte :=
  [o.swReset, o.autoWriteRed, o.autoWriteBw, o.gateSetting, o.gateVoltage, o.sourceVoltage, o.dataEntryMode,
   o.borderWaveform, o.boosterStrength, o.tempSensor, o.vcom, o.displayOption, o.ramXWindow, o.ramYWindow,
   o.displayUpdateControl2, o.setRamXCounter, o.setRamYCounter, o.writeRamBw, o.writeRamRed, o.writeLut,
   o.masterActivation, o.deepSleep]

/-- The operand lists `ARG_*` of the configuration commands (40_wire_framing R99): open parameters. -/
structure Arguments where
  autoWriteRed : List Byte
  autoWriteBw : List Byte
  gateSetting : List Byte
  gateVoltage : List Byte
  sourceVoltage : List Byte
  dataEntryMode : List Byte
  borderWaveform : List Byte
  boosterStrength : List Byte
  tempSensor : List Byte
  vcom : List Byte
  displayOptionFull : List Byte
  displayOptionFast : List Byte
  ramXWindow : List Byte
  ramYWindow : List Byte
  xOrigin : List Byte
  yOrigin : List Byte
  deriving DecidableEq, Repr

/-- The arguments of `open`, `setClockSpeed`, `setMode` and `configurePin` (00_scope R5; 92_eei_decisions D29): open
parameters that no rule reads, since the wire stops at the byte (log 25). -/
structure BusParameters where
  /-- `SPI_HZ` -/
  spiHz : Nat
  /-- `SPI_MODE` -/
  spiMode : Nat
  /-- `BUS_ID` -/
  busId : Nat
  /-- `DEV_ID` -/
  devId : Nat
  /-- the number of the reset pin -/
  rstPin : Nat
  /-- the number of the data/command-select pin -/
  dcPin : Nat
  /-- the number of the chip-select pin -/
  csPin : Nat
  /-- the number of the busy-sense pin -/
  busyPin : Nat
  deriving DecidableEq, Repr, Inhabited

/-- The open parameters of 00_scope R5. -/
structure Config where
  /-- `W`, the panel width in pixels -/
  w : Nat
  /-- `H`, the panel height in pixels -/
  h : Nat
  /-- `PARTIAL_REFRESH_LIMIT`, the reset value of the register of that name -/
  partialRefreshLimit : BitVec 16
  /-- `BUSY_ACTIVE`, the level of the busy-sense line that means busy -/
  busyActive : Level
  /-- `RECOUNT_BEFORE_RED` -/
  recountBeforeRed : Bool
  /-- `SLEEP_POWER_OFF`, the events of the "powers off" step of SLEEP. The spec says of it only that it is
  a list of wire events. DESIGN CHOICE: it may hold any event but a busy sample (log 24): a command byte that is none of
  the 22 opcodes of 30_encoding R71 (log 28), BUSOPEN and PINCFG, which 00_scope R8 gives to ATTACH, and any pin, frame
  or release event (log 29), a delay other than the six of 60_exceptions R183 (log 30). -/
  sleepPowerOff : List WireEvent
  op : Opcodes
  arg : Arguments
  /-- `LUT_LEN` -/
  lutLen : Nat
  lutOneBitFull : List Byte
  lutOneBitFast : List Byte
  lutFourLevelFull : List Byte
  lutFourLevelFast : List Byte
  bus : BusParameters
  deriving DecidableEq, Repr

namespace Config

/-! The constants the source fixes (00_scope R5, 70_reset_and_hazards R200). -/

/-- `T_RST_HI1`, ms -/
def tRstHi1 : Nat := 200
/-- `T_RST_LO`, ms -/
def tRstLo : Nat := 5
/-- `T_RST_HI2`, ms -/
def tRstHi2 : Nat := 200
/-- `T_SWRESET`, ms -/
def tSwReset : Nat := 300
/-- `T_SLEEP`, ms -/
def tSleep : Nat := 2000
/-- `T_POLL`, ms -/
def tPoll : Nat := 10
/-- `DUC2_INIT` -/
def duc2Init : Byte := 0xCF
/-- `DUC2_4L` -/
def duc2FourLevel : Byte := 0xC7
/-- `SLEEP_CHECK` -/
def sleepCheck : Byte := 0xA5
/-- `WHITE` -/
def white : Byte := 0xFF

/-! Free values: constants with no body. Nothing can be proved of them but what holds of every value. -/

/-- The level a busy sample returns when State lists no input for it (log 6). -/
opaque freeBusy : Nat → Level
/-- Whether the capability fails an event when State lists no input for it (log 6). -/
opaque freeFail : Nat → Bool
/-- What a host register read answers while an operation runs (10_state R27; log 7). -/
opaque freeWord : Nat → BitVec 32
/-- What a byte the spec calls unspecified reads as (93_implementation_defined U10, U11; log 7). -/
opaque freeByte : Nat → Byte
/-- The contents of the waveform tables of the reference configuration (00_scope R4, R5; log 4). -/
opaque lutByte : ColorMode → Bool → Nat → Byte
/-- The parameter PARTIAL_REFRESH_LIMIT of the reference configuration (00_scope R5; log 4). -/
opaque refLimit : BitVec 16
/-- The bus and pin parameters of the reference configuration, which have no value in the spec (00_scope R5; log 4). -/
opaque refBus : BusParameters

/-- `LUT(mode, fast)` (00_scope R5). -/
def lut (c : Config) : ColorMode → Bool → List Byte
  | .oneBit, false => c.lutOneBitFull
  | .oneBit, true => c.lutOneBitFast
  | .fourLevel, false => c.lutFourLevelFull
  | .fourLevel, true => c.lutFourLevelFast

/-- `ARG_DISPLAY_OPTION(fast)` (40_wire_framing R111). -/
def displayOption (c : Config) : Bool → List Byte
  | false => c.arg.displayOptionFull
  | true => c.arg.displayOptionFast

/-- `ceil(W/8) * H`: the bytes of a one-bit plane (20_memory R40, R42). -/
def planeLen (c : Config) : Nat := ceilDiv c.w 8 * c.h

/-- `ceil(W/4) * H`: the bytes of a packed FourLevel buffer (20_memory R40, R42). -/
def packedLen (c : Config) : Nat := ceilDiv c.w 4 * c.h

/-- The length of a frame buffer of that mode (10_state R22). -/
def frameLen (c : Config) : ColorMode → Nat
  | .oneBit => c.planeLen
  | .fourLevel => c.packedLen

/-- Whether an event is a busy sample; the power-off list holds none (log 24). -/
def isBusySample : WireEvent → Bool
  | .busy _ => true
  | .rst _ => false
  | .dc _ => false
  | .cs _ => false
  | .tx _ => false
  | .txb _ => false
  | .delay _ => false
  | .busClose => false
  | .pinsRelease => false
  | .busOpen => false
  | .pinCfg => false

/-- The admitted configurations: the geometry of 92_eei_decisions D1 with the widths of D26, the opcode bytes
pairwise distinct (40_wire_framing R99), the four waveform tables of one length (00_scope R5), the two display-option
lists different (40_wire_framing R111; log 22), no busy sample in the power-off list (log 24). DESIGN CHOICE:
the power-off list is not restricted otherwise, neither its bytes (log 28) nor its bus and pin events, BUSOPEN and PINCFG
among them (log 29), nor its delays (log 30). -/
abbrev Admitted (c : Config) : Prop :=
  c.w % 8 = 0 ∧ 8 ≤ c.w ∧ 1 ≤ c.h ∧ c.w < 65536 ∧ c.h < 65536 ∧ c.op.toList.Nodup ∧
  c.lutOneBitFull.length = c.lutLen ∧ c.lutOneBitFast.length = c.lutLen ∧
  c.lutFourLevelFull.length = c.lutLen ∧ c.lutFourLevelFast.length = c.lutLen ∧
  c.arg.displayOptionFull ≠ c.arg.displayOptionFast ∧
  c.sleepPowerOff.all (fun e => !isBusySample e) = true

/-- The default opcode bytes of 40_wire_framing R99, PRESUMED (log 2); `OP_DEEP_SLEEP`, which has no default, is the
value of the spec's example configuration, PRESUMED (log 3). -/
def defaultOpcodes : Opcodes where
  swReset := 0x12
  autoWriteRed := 0x46
  autoWriteBw := 0x47
  gateSetting := 0x01
  gateVoltage := 0x03
  sourceVoltage := 0x04
  dataEntryMode := 0x11
  borderWaveform := 0x3C
  boosterStrength := 0x0C
  tempSensor := 0x18
  vcom := 0x2C
  displayOption := 0x37
  ramXWindow := 0x44
  ramYWindow := 0x45
  displayUpdateControl2 := 0x22
  setRamXCounter := 0x4E
  setRamYCounter := 0x4F
  writeRamBw := 0x24
  writeRamRed := 0x26
  writeLut := 0x32
  masterActivation := 0x20
  deepSleep := 0x10

/-- The default operand lists of 40_wire_framing R99 for 280 x 480, PRESUMED (log 2); which display-option list
belongs to which preference is taken from the spec's example configuration, PRESUMED (log 3). -/
def defaultArguments : Arguments where
  autoWriteRed := [0xF7]
  autoWriteBw := [0xF7]
  gateSetting := [0xDF, 0x01, 0x00]
  gateVoltage := [0x00]
  sourceVoltage := [0x41, 0xA8, 0x32]
  dataEntryMode := [0x03]
  borderWaveform := [0x03]
  boosterStrength := [0xAE, 0xC7, 0xC3, 0xC0, 0xC0]
  tempSensor := [0x80]
  vcom := [0x44]
  displayOptionFull := [0x00, 0x00, 0x00, 0x00, 0x00, 0x00, 0x00, 0x00, 0x00, 0x00]
  displayOptionFast := [0x00, 0xFF, 0xFF, 0xFF, 0xFF, 0x4F, 0xFF, 0xFF, 0xFF, 0xFF]
  ramXWindow := [0x00, 0x00, 0x17, 0x01]
  ramYWindow := [0x00, 0x00, 0xDF, 0x01]
  xOrigin := [0x00, 0x00]
  yOrigin := [0x00, 0x00]

/-- The reference configuration: the geometry the source names (00_scope R5), the spec's defaults where it has
them, open bytes for the waveform tables (logs 1 to 5). -/
def reference : Config where
  w := 280
  h := 480
  partialRefreshLimit := refLimit
  busyActive := true
  recountBeforeRed := false
  sleepPowerOff := []
  op := defaultOpcodes
  arg := defaultArguments
  lutLen := 105
  lutOneBitFull := (List.range 105).map (lutByte .oneBit false)
  lutOneBitFast := (List.range 105).map (lutByte .oneBit true)
  lutFourLevelFull := (List.range 105).map (lutByte .fourLevel false)
  lutFourLevelFast := (List.range 105).map (lutByte .fourLevel true)
  bus := refBus

end Config

end Sys2Proof
end

