-- ==== Sys2Proof/Syntax.lean ====
section
/-! DEFINITION. The instructions: one constructor per row of spec/opcode_table.json, in the table's order. Three
spaces: the host's command words (30_encoding R66), the platform event ATTACH (41_protocol_driver R139), the panel
commands the block emits (40_wire_framing R99). Bits a row ignores are no operand. -/

namespace Sys2Proof

inductive Instr where
  /-- R131 -/
  | reset
  /-- R132; `fast` is bit 6 of the command word -/
  | init (fast : Bool)
  /-- R133 -/
  | displayFrame1B
  /-- R134 -/
  | displayFrame4L
  /-- R135 -/
  | clear1B
  /-- R136 -/
  | clear4L
  /-- R137 -/
  | sleep
  /-- R138 -/
  | waitIdle
  /-- R156 -/
  | encode1B
  /-- R157 -/
  | encode4L
  /-- R158 -/
  | derivePlanes
  /-- R171: DISPLAY_FRAME with `MODE[1] = 1` -/
  | displayFrameBadMode
  /-- R171: CLEAR with `MODE[1] = 1` -/
  | clearBadMode
  /-- R171: ENCODE with `MODE[1] = 1` -/
  | encodeBadMode
  /-- R176: `RSV = 1` -/
  | reservedRsv
  /-- R176: `OPC = 0x0` -/
  | reservedOpc0
  /-- R176: `OPC = 0x7` -/
  | reservedOpc7
  /-- R176: `OPC = 0xA` -/
  | reservedOpcA
  /-- R176: `OPC = 0xB` -/
  | reservedOpcB
  /-- R176: `OPC = 0xC` -/
  | reservedOpcC
  /-- R176: `OPC = 0xD` -/
  | reservedOpcD
  /-- R176: `OPC = 0xE` -/
  | reservedOpcE
  /-- R176: `OPC = 0xF` -/
  | reservedOpcF
  /-- R139: the platform event -/
  | attach
  /-- R100 -/
  | swReset
  /-- R101 -/
  | autoWriteRed
  /-- R102 -/
  | autoWriteBw
  /-- R103 -/
  | gateSetting
  /-- R104 -/
  | gateVoltage
  /-- R105 -/
  | sourceVoltage
  /-- R106 -/
  | dataEntryMode
  /-- R107 -/
  | borderWaveform
  /-- R108 -/
  | boosterStrength
  /-- R109 -/
  | tempSensor
  /-- R110 -/
  | vcom
  /-- R111; `fast` chooses the operand list -/
  | displayOption (fast : Bool)
  /-- R112 -/
  | ramXWindow
  /-- R113 -/
  | ramYWindow
  /-- R114; `v` is the operand byte -/
  | displayUpdateControl2 (v : Byte)
  /-- R115 -/
  | setRamXCounter
  /-- R116 -/
  | setRamYCounter
  /-- R117; `p` is the plane -/
  | writeRamBw (p : List Byte)
  /-- R118; `p` is the plane -/
  | writeRamRed (p : List Byte)
  /-- R119 -/
  | masterActivation
  /-- R120; `t` is the waveform table -/
  | writeLut (t : List Byte)
  /-- R121 -/
  | deepSleep
  deriving DecidableEq, Repr

end Sys2Proof
end

