-- ==== Sys2Proof/WellFormed.lean ====
section
/-! DEFINITION. The checks an instruction's operands must pass. Only four panel commands have operands of their own
that can be wrong: the control byte (40_wire_framing R114), the two planes (R117, R118), the waveform table (R120). -/

namespace Sys2Proof

/-- 40_wire_framing R114: the operand is `DUC2_INIT` or `DUC2_4L`. -/
def duc2WellFormed (v : Byte) : Bool := v == Config.duc2Init || v == Config.duc2FourLevel

/-- 40_wire_framing R117, R118: a plane has `ceil(W/8) * H` bytes. -/
def planeWellFormed (c : Config) (p : List Byte) : Bool := p.length == c.planeLen

/-- 40_wire_framing R97, R120: a waveform table has `LUT_LEN` bytes. -/
def lutWellFormed (c : Config) (t : List Byte) : Bool := t.length == c.lutLen

/-- Whether the operands of an instruction are ones the spec gives it. -/
def Instr.wellFormed (c : Config) : Instr → Bool
  | .reset => true
  | .init _ => true
  | .displayFrame1B => true
  | .displayFrame4L => true
  | .clear1B => true
  | .clear4L => true
  | .sleep => true
  | .waitIdle => true
  | .encode1B => true
  | .encode4L => true
  | .derivePlanes => true
  | .displayFrameBadMode => true
  | .clearBadMode => true
  | .encodeBadMode => true
  | .reservedRsv => true
  | .reservedOpc0 => true
  | .reservedOpc7 => true
  | .reservedOpcA => true
  | .reservedOpcB => true
  | .reservedOpcC => true
  | .reservedOpcD => true
  | .reservedOpcE => true
  | .reservedOpcF => true
  | .attach => true
  | .swReset => true
  | .autoWriteRed => true
  | .autoWriteBw => true
  | .gateSetting => true
  | .gateVoltage => true
  | .sourceVoltage => true
  | .dataEntryMode => true
  | .borderWaveform => true
  | .boosterStrength => true
  | .tempSensor => true
  | .vcom => true
  | .displayOption _ => true
  | .ramXWindow => true
  | .ramYWindow => true
  | .displayUpdateControl2 v => duc2WellFormed v
  | .setRamXCounter => true
  | .setRamYCounter => true
  | .writeRamBw p => planeWellFormed c p
  | .writeRamRed p => planeWellFormed c p
  | .masterActivation => true
  | .writeLut t => lutWellFormed c t
  | .deepSleep => true

end Sys2Proof
end

