-- ==== Sys2Proof/Decode.lean ====
section
/-! DEFINITION. The decoder and, after it, the encoder.

The three spaces of the opcode table are three alternatives of `Encoding`: the host's 8-bit command words
(30_encoding R65 to R74), the `attach` input (41_protocol_driver R139), and the items a panel command puts on the wire
(30_encoding R69, R70; 40_wire_framing R99). The block decodes command words only; decoding the wire is what the
framing rules let the receiver do (R70). -/

namespace Sys2Proof

/-- How a byte on the wire is marked: by the level of data/command-select before it (00_scope R9). -/
inductive FrameKind where
  /-- the last `DC` event before the byte drove level 0 -/
  | cmd
  /-- the last `DC` event before the byte drove level 1 -/
  | data
  /-- no `DC` event stands before the byte: no rule emits such a byte (log 21) -/
  | unmarked
  deriving DecidableEq, Repr

/-- One item of a byte trace (00_scope R9). -/
abbrev WireByte := FrameKind × Byte

/-- What stands for an instruction in its own space. -/
inductive Encoding where
  /-- a host command word -/
  | command (w : Byte)
  /-- the `attach` input asserted -/
  | attachInput
  /-- the byte trace of one panel command -/
  | wire (items : List WireByte)
  deriving DecidableEq, Repr

/-- Why an encoding stands for no instruction. -/
inductive DecodeError where
  /-- the wire items do not start with a command byte, or hold a second one, or hold an unmarked byte -/
  | badFraming
  /-- the command byte is none of the 22 opcodes (30_encoding R71) -/
  | unknownOpcode (op : Byte)
  /-- the operand bytes are not the ones the block sends after that opcode (30_encoding R70) -/
  | badOperands
  deriving DecidableEq, Repr

/-! ## The decoder -/

/-- `RSV`, bit 7 (30_encoding R65). -/
def wordRsv (c : Byte) : Bool := c.getLsbD 7
/-- `FAST`, bit 6 (30_encoding R65). -/
def wordFast (c : Byte) : Bool := c.getLsbD 6
/-- `MODE`, bits 5:4 (30_encoding R65). -/
def wordMode (c : Byte) : BitVec 2 := c.extractLsb' 4 2
/-- `OPC`, bits 3:0 (30_encoding R65). -/
def wordOpc (c : Byte) : BitVec 4 := c.extractLsb' 0 4

/-- The split on `MODE` (30_encoding R67, R74): bit 5 set is malformed, else bit 4 chooses the mode. -/
def byMode (mode : BitVec 2) (oneBit fourLevel malformed : Instr) : Instr :=
  if mode.getLsbD 1 then malformed else if mode.getLsbD 0 then fourLevel else oneBit

/-- The decoder of command words, total on every word, in the order of 30_encoding R74. The reserved and malformed
words are instructions of the table themselves: their meaning is to raise the error. -/
def decodeWord (c : Byte) : Instr :=
  if wordRsv c then .reservedRsv
  else match (wordOpc c).toNat with
    | 0x0 => .reservedOpc0
    | 0x1 => .reset
    | 0x2 => .init (wordFast c)
    | 0x3 => byMode (wordMode c) .displayFrame1B .displayFrame4L .displayFrameBadMode
    | 0x4 => byMode (wordMode c) .clear1B .clear4L .clearBadMode
    | 0x5 => .sleep
    | 0x6 => .waitIdle
    | 0x7 => .reservedOpc7
    | 0x8 => byMode (wordMode c) .encode1B .encode4L .encodeBadMode
    | 0x9 => .derivePlanes
    | 0xA => .reservedOpcA
    | 0xB => .reservedOpcB
    | 0xC => .reservedOpcC
    | 0xD => .reservedOpcD
    | 0xE => .reservedOpcE
    | _ => .reservedOpcF

/-- A panel command whose operand list is fixed (30_encoding R70). -/
def fixedOperands (args : List Byte) (i : Instr) (bs : List Byte) : Except DecodeError Instr :=
  if bs = args then .ok i else .error .badOperands

/-- A panel command whose operands are carried by the instruction. -/
def ownOperands (c : Config) (i : Instr) : Except DecodeError Instr :=
  if i.wellFormed c then .ok i else .error .badOperands

/-- DISPLAY_OPTION: one of two lists (40_wire_framing R111). -/
def displayOptionOperands (c : Config) (bs : List Byte) : Except DecodeError Instr :=
  if bs = c.displayOption false then .ok (.displayOption false)
  else if bs = c.displayOption true then .ok (.displayOption true)
  else .error .badOperands

/-- DISPLAY_UPDATE_CONTROL_2: one byte (40_wire_framing R114). -/
def duc2Operands (c : Config) : List Byte → Except DecodeError Instr
  | [v] => ownOperands c (.displayUpdateControl2 v)
  | _ => .error .badOperands

/-- The panel command a command byte and its operand bytes stand for (40_wire_framing R99 to R121). -/
def decodePanel (c : Config) (op : Byte) (bs : List Byte) : Except DecodeError Instr :=
  if op = c.op.swReset then fixedOperands [] .swReset bs
  else if op = c.op.autoWriteRed then fixedOperands c.arg.autoWriteRed .autoWriteRed bs
  else if op = c.op.autoWriteBw then fixedOperands c.arg.autoWriteBw .autoWriteBw bs
  else if op = c.op.gateSetting then fixedOperands c.arg.gateSetting .gateSetting bs
  else if op = c.op.gateVoltage then fixedOperands c.arg.gateVoltage .gateVoltage bs
  else if op = c.op.sourceVoltage then fixedOperands c.arg.sourceVoltage .sourceVoltage bs
  else if op = c.op.dataEntryMode then fixedOperands c.arg.dataEntryMode .dataEntryMode bs
  else if op = c.op.borderWaveform then fixedOperands c.arg.borderWaveform .borderWaveform bs
  else if op = c.op.boosterStrength then fixedOperands c.arg.boosterStrength .boosterStrength bs
  else if op = c.op.tempSensor then fixedOperands c.arg.tempSensor .tempSensor bs
  else if op = c.op.vcom then fixedOperands c.arg.vcom .vcom bs
  else if op = c.op.displayOption then displayOptionOperands c bs
  else if op = c.op.ramXWindow then fixedOperands c.arg.ramXWindow .ramXWindow bs
  else if op = c.op.ramYWindow then fixedOperands c.arg.ramYWindow .ramYWindow bs
  else if op = c.op.displayUpdateControl2 then duc2Operands c bs
  else if op = c.op.setRamXCounter then fixedOperands c.arg.xOrigin .setRamXCounter bs
  else if op = c.op.setRamYCounter then fixedOperands c.arg.yOrigin .setRamYCounter bs
  else if op = c.op.writeRamBw then ownOperands c (.writeRamBw bs)
  else if op = c.op.writeRamRed then ownOperands c (.writeRamRed bs)
  else if op = c.op.writeLut then ownOperands c (.writeLut bs)
  else if op = c.op.masterActivation then fixedOperands [] .masterActivation bs
  else if op = c.op.deepSleep then fixedOperands [Config.sleepCheck] .deepSleep bs
  else .error (.unknownOpcode op)

/-- The decoder of the wire: a command byte, then data bytes up to the end (30_encoding R70). -/
def decodeWire (c : Config) : List WireByte → Except DecodeError Instr
  | [] => .error .badFraming
  | (k, op) :: rest =>
    if k = .cmd ∧ rest.all (fun x => x.1 == .data) then decodePanel c op (rest.map Prod.snd)
    else .error .badFraming

/-- The decoder, total on every encoding, rejecting by name. -/
def decode (c : Config) : Encoding → Except DecodeError Instr
  | .command w => .ok (decodeWord w)
  | .attachInput => .ok .attach
  | .wire items => decodeWire c items

/-! ## The encoder -/

/-- The command word of its fields, `RSV` 0 (30_encoding R65). -/
def commandWord (fast : Bool) (mode : BitVec 2) (opc : BitVec 4) : Byte :=
  0#1 ++ BitVec.ofBool fast ++ mode ++ opc

/-- The byte trace of a panel command: the opcode as a command byte, each operand as a data byte (30_encoding R70). -/
def panelItems (op : Byte) (args : List Byte) : Encoding :=
  .wire ((.cmd, op) :: args.map (fun b => (.data, b)))

/-- The encoder: the words of an instruction in its own space; ignored bits are 0. -/
def encode (c : Config) : Instr → Encoding
  | .reset => .command (commandWord false 0 0x1)
  | .init fast => .command (commandWord fast 0 0x2)
  | .displayFrame1B => .command (commandWord false 0 0x3)
  | .displayFrame4L => .command (commandWord false 1 0x3)
  | .clear1B => .command (commandWord false 0 0x4)
  | .clear4L => .command (commandWord false 1 0x4)
  | .sleep => .command (commandWord false 0 0x5)
  | .waitIdle => .command (commandWord false 0 0x6)
  | .encode1B => .command (commandWord false 0 0x8)
  | .encode4L => .command (commandWord false 1 0x8)
  | .derivePlanes => .command (commandWord false 0 0x9)
  | .displayFrameBadMode => .command (commandWord false 2 0x3)
  | .clearBadMode => .command (commandWord false 2 0x4)
  | .encodeBadMode => .command (commandWord false 2 0x8)
  | .reservedRsv => .command 0x80
  | .reservedOpc0 => .command (commandWord false 0 0x0)
  | .reservedOpc7 => .command (commandWord false 0 0x7)
  | .reservedOpcA => .command (commandWord false 0 0xA)
  | .reservedOpcB => .command (commandWord false 0 0xB)
  | .reservedOpcC => .command (commandWord false 0 0xC)
  | .reservedOpcD => .command (commandWord false 0 0xD)
  | .reservedOpcE => .command (commandWord false 0 0xE)
  | .reservedOpcF => .command (commandWord false 0 0xF)
  | .attach => .attachInput
  | .swReset => panelItems c.op.swReset []
  | .autoWriteRed => panelItems c.op.autoWriteRed c.arg.autoWriteRed
  | .autoWriteBw => panelItems c.op.autoWriteBw c.arg.autoWriteBw
  | .gateSetting => panelItems c.op.gateSetting c.arg.gateSetting
  | .gateVoltage => panelItems c.op.gateVoltage c.arg.gateVoltage
  | .sourceVoltage => panelItems c.op.sourceVoltage c.arg.sourceVoltage
  | .dataEntryMode => panelItems c.op.dataEntryMode c.arg.dataEntryMode
  | .borderWaveform => panelItems c.op.borderWaveform c.arg.borderWaveform
  | .boosterStrength => panelItems c.op.boosterStrength c.arg.boosterStrength
  | .tempSensor => panelItems c.op.tempSensor c.arg.tempSensor
  | .vcom => panelItems c.op.vcom c.arg.vcom
  | .displayOption fast => panelItems c.op.displayOption (c.displayOption fast)
  | .ramXWindow => panelItems c.op.ramXWindow c.arg.ramXWindow
  | .ramYWindow => panelItems c.op.ramYWindow c.arg.ramYWindow
  | .displayUpdateControl2 v => panelItems c.op.displayUpdateControl2 [v]
  | .setRamXCounter => panelItems c.op.setRamXCounter c.arg.xOrigin
  | .setRamYCounter => panelItems c.op.setRamYCounter c.arg.yOrigin
  | .writeRamBw p => panelItems c.op.writeRamBw p
  | .writeRamRed p => panelItems c.op.writeRamRed p
  | .masterActivation => panelItems c.op.masterActivation []
  | .writeLut t => panelItems c.op.writeLut t
  | .deepSleep => panelItems c.op.deepSleep [Config.sleepCheck]

/-- The instruction the decoder reads from a word of the opcode table. The only words the block decodes are the 8-bit
command words, so a word of 8 bits or more is read as one (its low 8 bits, 10_state R27); the one-bit word 1 is the
`attach` input of the row ATTACH. The bytes of the panel rows are command words too and are read as such (log 15). -/
def decodeTableWord (nbits w : Nat) : Option Instr :=
  if nbits = 1 then (if w % 2 = 1 then some .attach else none)
  else some (decodeWord (BitVec.ofNat 8 (w % 2 ^ nbits)))

end Sys2Proof
end

