-- ==== Sys2Proof/Machine/State.lean ====
section
/-! DEFINITION. The state of the display block as plain data (10_state R10), the reasons a step can stop, and reset
(10_state R30). -/

namespace Sys2Proof.Machine

/-- The DriverState (10_state R11). -/
inductive DriverState where
  | uninitialized
  | ready
  | sleeping
  deriving DecidableEq, Repr

/-- The error names of 60_exceptions R170. -/
inductive ErrorCode where
  | none
  | invalidMode
  | dimensionMismatch
  | notReady
  | busFailure
  | invalidCommand
  deriving DecidableEq, Repr

/-- A memory: (address, byte) pairs, addresses strictly rising; an address not listed holds no known value
(20_memory R40; 93_implementation_defined U10; log 11). -/
abbrev Memory := List Host.Cell

/-- The state writes that stand in the expansions of the operations (41_protocol_driver, 42_pixel_encoder). -/
inductive StateWrite where
  /-- `PREF_FAST <- f` (R132) -/
  | preferFast (f : Bool)
  /-- `PANEL_UNDEF <- 0` (R131) -/
  | panelKnown
  /-- `DSTATE <- Ready` (R132) -/
  | ready
  /-- `FB <- bs; FB_LEN <- len(bs); FB_MODE <- m; FB_VALID <- 1` (R156, R157) -/
  | frame (m : ColorMode) (bs : List Byte)
  /-- `PL_BW <- bw; PL_RED <- red; PL_LEN <- FB_LEN / 2` (R134, R158) -/
  | planes (bw red : List Byte)
  /-- `REFRESH_CNT <- 0` (R133 to R136) -/
  | refreshed
  /-- `FB_VALID <- 0` (R133, R134) -/
  | consumed
  /-- `DSTATE <- Sleeping; ATTACHED <- 0; RST_O, DC_O, CS_O <- none` (R137) -/
  | sleeping
  /-- `ATTACHED <- 1; RST_O, DC_O, CS_O <- none` (R139) -/
  | attached
  deriving DecidableEq, Repr

/-- One element of an operation's expansion. -/
inductive Micro where
  /-- one wire event (00_scope R8) -/
  | emit (e : WireEvent)
  /-- the loop `WAIT_IDLE()` (40_wire_framing R96) -/
  | poll
  /-- one state write -/
  | write (w : StateWrite)
  /-- the emission of a panel command (41_protocol_driver R132: "each name in the body") -/
  | call (i : Instr)
  deriving DecidableEq, Repr

/-- The sequencer position `SEQ` (10_state R20): idle, or the operation in progress, the number of wire events and
state writes performed, whether a wire event was among them (R28 asks), and the remaining list. -/
inductive Seq where
  | idle
  | busy (op : Instr) (idx : Nat) (touched : Bool) (rest : List Micro)
  deriving DecidableEq, Repr

/-- The byte memories the host reads, each through a port of its own (10_state R29). -/
inductive ReadPort where
  | fb
  | plBw
  | plRed
  deriving DecidableEq, Repr

/-- The registers of the host map (10_state R27). -/
inductive HostReg where
  | cmd
  | status
  | err
  | refreshCnt
  | partialRefreshLimit
  | imgW
  | imgH
  | fbLen
  | plLen
  | geomW
  | geomH
  deriving DecidableEq, Repr

/-- What the environment does in one step (00_scope R8; 10_state R29; log 6). -/
inductive Input where
  /-- the sequencer's turn: the level on the busy-sense line and the capability's choice to fail the event -/
  | tick (busy : Level) (capFail : Bool)
  /-- a write on the host register port -/
  | hostWrite (addr : BitVec 6) (data : BitVec 32)
  /-- a read on the host register port -/
  | hostRead (addr : BitVec 6)
  /-- an element write on the `img_*` port -/
  | imgWrite (x y : BitVec 16) (v : Byte)
  /-- a byte read on the `fb_*` or `pl_*` port -/
  | memRead (p : ReadPort) (i : BitVec 32)
  /-- the `attach` input -/
  | attach
  /-- `rst_n` asserted -/
  | blockReset
  deriving DecidableEq, Repr

/-- The state of the machine. The three groups after the configuration are the spec's registers (10_state R11 to R23,
R29), its memories (20_memory R40) and its observations (00_scope R9, 10_state R28); then the block's output ports; the
last four fields are the model's own (logs 6, 7, 9). -/
structure State where
  /-- the configuration; no step writes it (log 1) -/
  cfg : Config
  dstate : DriverState
  refreshCnt : BitVec 16
  partialRefreshLimit : BitVec 16
  prefFast : Bool
  attached : Bool
  err : ErrorCode
  seq : Seq
  imgW : BitVec 16
  imgH : BitVec 16
  fbLen : BitVec 32
  fbValid : Bool
  fbMode : ColorMode
  plLen : BitVec 32
  rstO : Option Level
  dcO : Option Level
  csO : Option Level
  img : Memory
  fb : Memory
  plBw : Memory
  plRed : Memory
  /-- the wire trace `T`, oldest event first -/
  trace : List WireEvent
  /-- the ghost flag `PANEL_UNDEF` -/
  panelUndef : Bool
  /-- the `done` output, high for the one step after an operation ended (log 18) -/
  done : Bool
  hRdata : BitVec 32
  fbRdata : Byte
  plBwRdata : Byte
  plRedRdata : Byte
  /-- whether the host has written `IMG_W` (log 9) -/
  imgWSet : Bool
  /-- whether the host has written `IMG_H` (log 9) -/
  imgHSet : Bool
  /-- what the environment does next, first first (log 6) -/
  inputs : List Input
  /-- how many free values were drawn (log 7) -/
  freeCount : Nat
  deriving DecidableEq, Repr

/-- Why the machine stops: an access to an address the spec says does not exist. Both are safe: the model goes no
further where the hardware may. -/
inductive Fault where
  /-- Raised by the host register port at an address that 10_state R27 does not list. Safe. -/
  | unmappedRegister (addr : BitVec 6)
  /-- Raised by a memory read port at an index not below the memory's capacity (20_memory R40). Safe. -/
  | beyondCapacity (p : ReadPort) (i : BitVec 32)
  deriving DecidableEq, Repr

/-- Why an instruction has no step. -/
inductive Refusal where
  /-- Raised by an arm of `exec` for an instruction without a meaning. Safe. -/
  | notModelled (mnemonic : String)
  /-- Raised by DISPLAY_FRAME and DERIVE_PLANES when the frame's tag does not fit: the spec gives no step
  (93_implementation_defined U4, U5; log 12). Safe. -/
  | frameTagMismatch
  /-- Raised by ENCODE before the host has written `IMG_W`, `IMG_H` and every element of the grid: the spec gives no
  step (10_state R21; 93_implementation_defined U10; log 9). Safe. -/
  | gridUnwritten
  /-- Raised by a panel command while no operation runs: the block emits panel commands only inside an operation
  (40_wire_framing, opening; log 14). Safe. -/
  | outsideOperation
  deriving DecidableEq, Repr

/-- The outcome of one step of this machine. -/
abbrev Outcome := Host.Outcome State Fault Refusal

/-- Block reset in a configuration: the table of 10_state R30. `IMG_W`, `IMG_H`, `FB_LEN`, `FB_MODE` are unspecified
there and hold the values of log 8; the output ports those of log 18. -/
def State.resetWith (c : Config) : State where
  cfg := c
  dstate := .uninitialized
  refreshCnt := 0
  partialRefreshLimit := c.partialRefreshLimit
  prefFast := false
  attached := false
  err := .none
  seq := .idle
  imgW := 0
  imgH := 0
  fbLen := 0
  fbValid := false
  fbMode := .oneBit
  plLen := 0
  rstO := none
  dcO := none
  csO := none
  img := []
  fb := []
  plBw := []
  plRed := []
  trace := []
  panelUndef := false
  done := false
  hRdata := 0
  fbRdata := 0
  plBwRdata := 0
  plRedRdata := 0
  imgWSet := false
  imgHSet := false
  inputs := []
  freeCount := 0

/-- The machine right after reset, in the reference configuration (10_state R30, 70_reset_and_hazards R195). -/
def State.reset : State := State.resetWith Config.reference

end Sys2Proof.Machine
end

