-- ==== Sys2Proof/Machine/Ops.lean ====
section
/-! DEFINITION. The named operations over the memories, the wire and the sequencer that every meaning is written in:
reading and writing memory, performing a wire event, the byte trace and the plane views, starting and completing an
operation, and RAISING AN ERROR (60_exceptions R175), this hardware's counterpart of taking an exception. There is no
return operation (60_exceptions R178): after an error the block is idle. -/

namespace Sys2Proof.Machine

/-! ## Memories (20_memory R40, R45) -/

/-- The byte at an address; `none` where nothing was written. -/
def Memory.read : Memory → Nat → Option Byte
  | [], _ => none
  | (a, b) :: m, k => if a = k then some b else Memory.read m k

/-- Write one byte, keeping the addresses strictly rising. -/
def Memory.write : Memory → Nat → Byte → Memory
  | [], k, v => [(k, v)]
  | (a, b) :: m, k, v =>
    if k < a then (k, v) :: (a, b) :: m
    else if k = a then (k, v) :: m
    else (a, b) :: Memory.write m k v

/-- A memory that holds a byte list from address `n` on, and nothing else. -/
def Memory.ofBytesFrom : Nat → List Byte → Memory
  | _, [] => []
  | n, b :: bs => (n, b) :: Memory.ofBytesFrom (n + 1) bs

/-- A freshly allocated memory that holds a byte list from address 0 on (42_pixel_encoder R150: "a freshly allocated
buffer"; 20_memory R42: bytes past the end are unspecified; log 11). -/
def Memory.ofBytes (bs : List Byte) : Memory := Memory.ofBytesFrom 0 bs

/-- The canonical form: addresses strictly rising. An unlisted address has no value, so no entry can equal it. -/
abbrev Memory.wf (m : Memory) : Prop := (m.map Prod.fst).Pairwise (· < ·)

/-- The address of `IMG` element (x, y): coordinates are 16 bits (92_eei_decisions D26; log 10). -/
def imgAddr (x y : Nat) : Nat := y * 65536 + x

/-! ## The wire (00_scope R8, R9; 10_state R29; 20_memory R47) -/

/-- Whether the capability may fail an event: every event but a delay (00_scope R8, 40_wire_framing R95). -/
def canFail : WireEvent → Bool
  | .delay _ => false
  | .rst _ => true
  | .dc _ => true
  | .cs _ => true
  | .tx _ => true
  | .txb _ => true
  | .busy _ => true
  | .busClose => true
  | .pinsRelease => true
  | .busOpen => true
  | .pinCfg => true

/-- The level of the reset output after an event (10_state R29, 40_wire_framing R90). -/
def rstAfter (old : Option Level) : WireEvent → Option Level
  | .rst l => some l
  | _ => old

/-- The level of the data/command-select output after an event. -/
def dcAfter (old : Option Level) : WireEvent → Option Level
  | .dc l => some l
  | _ => old

/-- The level of the chip-select output after an event. -/
def csAfter (old : Option Level) : WireEvent → Option Level
  | .cs l => some l
  | _ => old

/-- Perform a wire event: append it to the trace, and let a pin event drive its pin (00_scope R6 `emit`,
40_wire_framing R90). -/
def record (e : WireEvent) (s : State) : State :=
  { s with
    trace := s.trace ++ [e]
    rstO := rstAfter s.rstO e
    dcO := dcAfter s.dcO e
    csO := csAfter s.csO e }

/-- How a byte is marked when data/command-select stands at a level (00_scope R9). -/
def frameKind : Option Level → FrameKind
  | some false => .cmd
  | some true => .data
  | none => .unmarked

/-- The byte trace of a list of events that starts with data/command-select at a level (00_scope R9). -/
def byteTraceFrom : Option Level → List WireEvent → List WireByte
  | _, [] => []
  | _, .dc l :: es => byteTraceFrom (some l) es
  | d, .tx b :: es => (frameKind d, b) :: byteTraceFrom d es
  | d, .txb bs :: es => bs.map (fun b => (frameKind d, b)) ++ byteTraceFrom d es
  | d, .rst _ :: es => byteTraceFrom d es
  | d, .cs _ :: es => byteTraceFrom d es
  | d, .busy _ :: es => byteTraceFrom d es
  | d, .delay _ :: es => byteTraceFrom d es
  | d, .busClose :: es => byteTraceFrom d es
  | d, .pinsRelease :: es => byteTraceFrom d es
  | d, .busOpen :: es => byteTraceFrom d es
  | d, .pinCfg :: es => byteTraceFrom d es

/-- `bytes(T)`, the byte trace (00_scope R9). -/
def byteTrace (t : List WireEvent) : List WireByte := byteTraceFrom none t

/-- What follows the last item `(cmd, op)` of a byte trace. -/
def afterLastCommand (op : Byte) : List WireByte → Option (List WireByte)
  | [] => none
  | x :: xs =>
    match afterLastCommand op xs with
    | some r => some r
    | none => if x = (.cmd, op) then some xs else none

/-- `ram_image(T, p)` for the plane whose write opcode is `op` (20_memory R47): the data bytes that follow the last
such command up to the next command item; `none` where the trace has no such command. -/
def ramImage (op : Byte) (t : List WireEvent) : Option (List Byte) :=
  (afterLastCommand op (byteTrace t)).map
    (fun r => ((r.takeWhile (fun x => x.1 != .cmd)).filter (fun x => x.1 == .data)).map Prod.snd)

/-! ## The sequencer -/

/-- `BUSY_OP = (SEQ != idle)` (10_state R26). -/
def busyOp (s : State) : Bool :=
  match s.seq with
  | .idle => false
  | .busy _ _ _ _ => true

/-- `raise E` (60_exceptions R175): `ERR <- code(E); SEQ <- idle`, `done` pulses, and nothing else. -/
def raise (e : ErrorCode) (s : State) : State := { s with err := e, seq := .idle, done := true }

/-- The capability fails the event in progress (60_exceptions R174 cause (b)): the event is not recorded, and
`PANEL_UNDEF <- 1` if the operation had performed an event (10_state R28). -/
def failEvent (touched : Bool) (s : State) : State :=
  raise .busFailure { s with panelUndef := s.panelUndef || touched }

/-- The end of an operation without error (41_protocol_driver R130 step 6): `ERR <- 0; SEQ <- idle; done`. -/
def complete (s : State) : State := { s with err := .none, seq := .idle, done := true }

/-- `SEQ <- (op with its arguments, 0)` (30_encoding R74): the sequencer has the whole expansion before it. -/
def start (op : Instr) (rest : List Micro) (s : State) : Outcome :=
  .next { s with seq := .busy op 0 false rest }

/-- Put the emission of a panel command in front of what the sequencer has left to do. -/
def queue (ms : List Micro) (s : State) : Outcome :=
  match s.seq with
  | .idle => .refused .outsideOperation
  | .busy op idx touched rest => .next { s with seq := .busy op idx touched (ms ++ rest) }

/-- An operation presented while another runs is ignored (30_encoding R65; 41_protocol_driver R139). -/
def whenIdle (s : State) (o : Outcome) : Outcome := if busyOp s then .next s else o

/-- The attachment check (41_protocol_driver R130 step 4; 60_exceptions R174 cause (a)). -/
def whenAttached (s : State) (o : Outcome) : Outcome := if s.attached then o else .next (raise .busFailure s)

/-- The DriverState check (41_protocol_driver R130 step 2; 60_exceptions R173). -/
def whenAwake (s : State) (o : Outcome) : Outcome :=
  if s.dstate = .sleeping then .next (raise .notReady s) else o

/-- The state writes of the expansions. `PL_LEN` is written as `FB_LEN / 2` (42_pixel_encoder R158). -/
def applyWrite : StateWrite → State → State
  | .preferFast f, s => { s with prefFast := f }
  | .panelKnown, s => { s with panelUndef := false }
  | .ready, s => { s with dstate := .ready }
  | .frame m bs, s =>
    { s with fb := Memory.ofBytes bs, fbLen := BitVec.ofNat 32 bs.length, fbMode := m, fbValid := true }
  | .planes bw red, s => { s with plBw := Memory.ofBytes bw, plRed := Memory.ofBytes red, plLen := s.fbLen / 2 }
  | .refreshed, s => { s with refreshCnt := 0 }
  | .consumed, s => { s with fbValid := false }
  | .sleeping, s =>
    { s with dstate := .sleeping, attached := false, rstO := none, dcO := none, csO := none }
  | .attached, s => { s with attached := true, rstO := none, dcO := none, csO := none }

end Sys2Proof.Machine
end

