-- ==== Sys2Proof/Machine/Flags.lean ====
section
/-! DEFINITION. The numeric codes and the status flags (10_state R11, R26, R27; 60_exceptions R170). The block has no
arithmetic condition codes (10_state R26). -/

namespace Sys2Proof.Machine

/-- The numeric encoding of `DSTATE` (10_state R11). -/
def dstateCode : DriverState → BitVec 2
  | .uninitialized => 0
  | .ready => 1
  | .sleeping => 2

/-- The code of an error in `ERR` and on `err[2:0]` (60_exceptions R170). -/
def errCode : ErrorCode → BitVec 3
  | .none => 0
  | .invalidMode => 1
  | .dimensionMismatch => 2
  | .notReady => 3
  | .busFailure => 4
  | .invalidCommand => 5

/-- `FB_MODE`: 0 for OneBit, 1 for FourLevel (10_state R22). -/
def modeBit : ColorMode → Bool
  | .oneBit => false
  | .fourLevel => true

/-- The `STATUS` register, bit by bit (10_state R27). -/
def statusWord (s : State) : BitVec 32 :=
  (0#25 ++ BitVec.ofBool s.prefFast ++ BitVec.ofBool (modeBit s.fbMode) ++ BitVec.ofBool s.fbValid ++
    dstateCode s.dstate ++ BitVec.ofBool s.attached ++ BitVec.ofBool (busyOp s)).setWidth 32

/-- The `err[2:0]` output: the value written to `ERR` when `done` pulses (10_state R29). -/
def errPort (s : State) : BitVec 3 := errCode s.err

/-- The buffer-tag precondition `FB_VALID = 1 and FB_MODE = m` (41_protocol_driver R133, R134; 42_pixel_encoder R158). -/
def frameTagged (m : ColorMode) (s : State) : Bool := s.fbValid && (s.fbMode == m)

/-- Refuse where the tag precondition fails (93_implementation_defined U4, U5; log 12). -/
def whenTagged (m : ColorMode) (s : State) (o : Outcome) : Outcome :=
  if frameTagged m s then o else .refused .frameTagMismatch

end Sys2Proof.Machine
end

