-- ==== Sys2Proof/Machine/Operands.lean ====
section
/-! DEFINITION. Every operand form: the frames that carry the bytes of a panel command (30_encoding R69, R70), the
frame buffer as a byte list (10_state R22), and the input grid seen from the panel (42_pixel_encoder R151). -/

namespace Sys2Proof.Machine

/-! ## Frames (40_wire_framing R90 to R94) -/

/-- `PIN(p, l)` for the three outputs (40_wire_framing R90). -/
def pinRst (l : Level) : Micro := .emit (.rst l)
/-- `PIN(DC, l)`. -/
def pinDc (l : Level) : Micro := .emit (.dc l)
/-- `PIN(CS, l)`. -/
def pinCs (l : Level) : Micro := .emit (.cs l)

/-- `SEND_COMMAND(op)` (40_wire_framing R91). -/
def sendCommand (op : Byte) : List Micro := [pinDc false, pinCs false, .emit (.tx op), pinCs true]

/-- `SEND_DATA(b)` (40_wire_framing R92). -/
def sendData (b : Byte) : List Micro := [pinDc true, pinCs false, .emit (.tx b), pinCs true]

/-- `SEND_DATA_BULK(bs)` (40_wire_framing R93). -/
def sendDataBulk (bs : List Byte) : List Micro := [pinDc true, pinCs false, .emit (.txb bs), pinCs true]

/-- `SEND_ARGS(bs)` (40_wire_framing R94): a data frame of its own for every byte. -/
def sendArgs (bs : List Byte) : List Micro := bs.flatMap sendData

/-- `DELAY(ms)` (40_wire_framing R95). -/
def delay (ms : Nat) : Micro := .emit (.delay ms)

/-! ## The frame buffer -/

/-- `FB[0 .. FB_LEN-1]` (41_protocol_driver R133). A byte that nothing wrote, which no reachable state has below
`FB_LEN` of a valid frame, is a free value (93_implementation_defined U10; log 27). -/
def frameBytes (s : State) : List Byte :=
  (List.range s.fbLen.toNat).map (fun i => (s.fb.read i).getD (Config.freeByte i))

/-- A plane of `ceil(W/8) * H` white bytes (41_protocol_driver R135). -/
def whitePlane (c : Config) : List Byte := List.replicate c.planeLen Config.white

/-! ## The input grid -/

/-- The orientation of the input grid (42_pixel_encoder R151). -/
inductive Orientation where
  | direct
  | transposed
  deriving DecidableEq, Repr

/-- The orientation of a grid of `gw` columns and `gh` rows; `none` is DimensionMismatch (42_pixel_encoder R151). A
square panel takes the direct branch. -/
def orientation (c : Config) (gw gh : Nat) : Option Orientation :=
  if gw = c.w ∧ gh = c.h then some .direct
  else if gw = c.h ∧ gh = c.w then some .transposed
  else none

/-- The column of the input grid that panel position (px, py) is read from (42_pixel_encoder R151). -/
def gridX (c : Config) (o : Orientation) (px py : Nat) : Nat :=
  match o with
  | .direct => px
  | .transposed => c.h - 1 - py

/-- The row of the input grid that panel position (px, py) is read from (42_pixel_encoder R151). -/
def gridY (o : Orientation) (px py : Nat) : Nat :=
  match o with
  | .direct => py
  | .transposed => px

/-- The element of `IMG` under panel position (px, py); `none` where the host wrote nothing. -/
def gridElement (s : State) (o : Orientation) (px py : Nat) : Option Byte :=
  s.img.read (imgAddr (gridX s.cfg o px py) (gridY o px py))

/-- Whether the host has written the whole grid (93_implementation_defined U10; log 9). -/
def gridWritten (s : State) (o : Orientation) : Bool :=
  (List.range s.cfg.h).all (fun py => (List.range s.cfg.w).all (fun px => (gridElement s o px py).isSome))

/-- The panel grid `P(px, py)` (42_pixel_encoder R151). ENCODE reads it only where `gridWritten` holds, so the
default is never read. -/
def panelGrid (s : State) (o : Orientation) (px py : Nat) : Byte := (gridElement s o px py).getD 0

end Sys2Proof.Machine
end

