-- ==== Sys2Proof/Machine/Pixels.lean ====
section
/-! DEFINITION. The three pure functions of the Pixel Encoder, written as the spec's loops: `pack1`, `pack4`, `derive`
(42_pixel_encoder R152, R153, R154), and the truth tables (R155). A panel grid is a function of panel coordinates. -/

namespace Sys2Proof.Machine

/-- The mask of the linear panel address `a` in its byte: `0x80 >> (a mod 8)` (42_pixel_encoder R152). -/
def pixelMask (a : Nat) : Byte := 0x80#8 >>> (a % 8)

/-- One iteration of `pack1`: a black pixel clears its bit, a white one changes nothing (42_pixel_encoder R152; an
element is black iff it is 0, 20_memory R41). -/
def pack1Pixel (w : Nat) (p : Nat → Nat → Byte) (py : Nat) (out : List Byte) (px : Nat) : List Byte :=
  if p px py = 0 then out.modify ((px + py * w) / 8) (fun b => b &&& ~~~(pixelMask (px + py * w))) else out

/-- `pack1` (42_pixel_encoder R152): an all-white buffer, and the two loops. -/
def pack1 (c : Config) (p : Nat → Nat → Byte) : List Byte :=
  (List.range c.h).foldl
    (fun out py => (List.range c.w).foldl (pack1Pixel c.w p py) out)
    (List.replicate c.planeLen Config.white)

/-- The code of a sample: its top two bits, as a byte (42_pixel_encoder R153). -/
def sampleCode (s : Byte) : Byte := s >>> 6

/-- The packed byte of four samples: `(c0 << 6) | (c1 << 4) | (c2 << 2) | c3` (42_pixel_encoder R153). -/
def packSamples (s0 s1 s2 s3 : Byte) : Byte :=
  (sampleCode s0 <<< 6) ||| (sampleCode s1 <<< 4) ||| (sampleCode s2 <<< 2) ||| sampleCode s3

/-- `pack4` (42_pixel_encoder R153): the rows in order, the groups of a row in order, so that byte
`py * (W/4) + g` is group `g` of row `py`. -/
def pack4 (c : Config) (p : Nat → Nat → Byte) : List Byte :=
  (List.range c.h).flatMap (fun py =>
    (List.range (c.w / 4)).map (fun g =>
      packSamples (p (4 * g) py) (p (4 * g + 1) py) (p (4 * g + 2) py) (p (4 * g + 3) py)))

/-- The four levels of 42_pixel_encoder R155. -/
inductive GrayLevel where
  | black
  | gray2
  | gray1
  | white
  deriving DecidableEq, Repr

/-- The level of a two-bit code (42_pixel_encoder R155). -/
def levelOfCode (code : BitVec 2) : GrayLevel :=
  match code.toNat with
  | 0 => .black
  | 1 => .gray2
  | 2 => .gray1
  | _ => .white

/-- `BWBIT`: the truth table of the BW plane (42_pixel_encoder R155). -/
def bwBit : GrayLevel → Bool
  | .white => true
  | .gray1 => false
  | .gray2 => true
  | .black => false

/-- `REDBIT`: the truth table of the RED plane (42_pixel_encoder R155). -/
def redBit : GrayLevel → Bool
  | .white => true
  | .gray1 => true
  | .gray2 => false
  | .black => false

/-- The `m`-th sample code of a packed byte, first sample in the top bits (42_pixel_encoder R154). -/
def codeAt (b : Byte) (m : Nat) : BitVec 2 := (b >>> (6 - 2 * m)).setWidth 2

/-- The code of the `k`-th sample that goes into destination byte `i` (42_pixel_encoder R154). -/
def deriveCode (pk : List Byte) (i k : Nat) : BitVec 2 := codeAt (pk.getD (2 * i + k / 4) 0) (k % 4)

/-- Destination byte `i` of a plane: the eight bits or-ed together, first sample in bit 7 (42_pixel_encoder R154). -/
def deriveByte (table : GrayLevel → Bool) (pk : List Byte) (i : Nat) : Byte :=
  (List.range 8).foldl
    (fun acc k => acc ||| ((BitVec.ofBool (table (levelOfCode (deriveCode pk i k)))).setWidth 8 <<< (7 - k))) 0

/-- One plane of the derivation (42_pixel_encoder R154). -/
def derivePlane (table : GrayLevel → Bool) (pk : List Byte) : List Byte :=
  (List.range (pk.length / 2)).map (deriveByte table pk)

/-- The BW plane of a packed buffer. -/
def deriveBw (pk : List Byte) : List Byte := derivePlane bwBit pk

/-- The RED plane of a packed buffer. -/
def deriveRed (pk : List Byte) : List Byte := derivePlane redBit pk

end Sys2Proof.Machine
end

