-- ==== Sys2Proof/Machine/Driver.lean ====
section
/-! DEFINITION. The operations of the Protocol Driver and the platform event ATTACH (41_protocol_driver). Each meaning
makes the checks of the common frame (R130) in their order and then hands the sequencer the operation's expansion: a
fixed function of the command word, the configuration and the buffers (10_state R20). -/

namespace Sys2Proof.Machine

/-! ## Expansions -/

/-- `RESET_PULSE()` (R131). -/
def resetPulse : List Micro :=
  [pinRst true, delay Config.tRstHi1, pinRst false, delay Config.tRstLo, pinRst true, delay Config.tRstHi2,
   .write .panelKnown]

/-- `INIT_BODY(f)` (R132). -/
def initBody (f : Bool) : List Micro :=
  resetPulse ++
  [.call .swReset, delay Config.tSwReset,
   .call .autoWriteRed, .poll,
   .call .autoWriteBw, .poll,
   .call .gateSetting, .call .gateVoltage, .call .sourceVoltage, .call .dataEntryMode, .call .borderWaveform,
   .call .boosterStrength, .call .tempSensor, .call .vcom, .call (.displayOption f), .call .ramXWindow,
   .call .ramYWindow,
   .call (.displayUpdateControl2 Config.duc2Init),
   .write .ready]

/-- `if DSTATE = Uninitialized: INIT_BODY(PREF_FAST)` (R133 to R136, R141 (a)). -/
def nestedInit (s : State) : List Micro :=
  if s.dstate = .uninitialized then initBody s.prefFast else []

/-- `SET_COUNTERS_ORIGIN()` (40_wire_framing R98). -/
def setCountersOrigin : List Micro := [.call .setRamXCounter, .call .setRamYCounter]

/-- `if RECOUNT_BEFORE_RED: SET_COUNTERS_ORIGIN()` (R134, R136). -/
def recountBeforeRed (c : Config) : List Micro := if c.recountBeforeRed then setCountersOrigin else []

/-- `LOAD_LUT(LUT(m, PREF_FAST))` (40_wire_framing R97). -/
def loadLut (m : ColorMode) (s : State) : List Micro := [.call (.writeLut (s.cfg.lut m s.prefFast))]

/-- `MASTER_ACTIVATION; WAIT_IDLE()` (40_wire_framing R119). -/
def activateAndWait : List Micro := [.call .masterActivation, .poll]

/-- The wire part that DISPLAY_FRAME.1B and CLEAR.1B share, over the plane written (R133, R135). -/
def showOneBit (plane : List Byte) (s : State) : List Micro :=
  setCountersOrigin ++ [.call (.writeRamBw plane)] ++ loadLut .oneBit s ++ activateAndWait

/-- The wire part that DISPLAY_FRAME.4L and CLEAR.4L share, over the planes written (R134, R136). -/
def showFourLevel (bw red : List Byte) (s : State) : List Micro :=
  setCountersOrigin ++ [.call (.writeRamBw bw)] ++ recountBeforeRed s.cfg ++ [.call (.writeRamRed red)] ++
  loadLut .fourLevel s ++ [.call (.displayUpdateControl2 Config.duc2FourLevel)] ++ activateAndWait

/-- The expansion of DISPLAY_FRAME.1B (R133). -/
def displayFrame1BBody (s : State) : List Micro :=
  nestedInit s ++ showOneBit (frameBytes s) s ++ [.write .refreshed, .write .consumed]

/-- The expansion of DISPLAY_FRAME.4L (R134). -/
def displayFrame4LBody (s : State) : List Micro :=
  nestedInit s ++ [.write (.planes (deriveBw (frameBytes s)) (deriveRed (frameBytes s)))] ++
  showFourLevel (deriveBw (frameBytes s)) (deriveRed (frameBytes s)) s ++ [.write .refreshed, .write .consumed]

/-- The expansion of CLEAR.1B (R135). -/
def clear1BBody (s : State) : List Micro :=
  nestedInit s ++ showOneBit (whitePlane s.cfg) s ++ [.write .refreshed]

/-- The expansion of CLEAR.4L (R136). -/
def clear4LBody (s : State) : List Micro :=
  nestedInit s ++ showFourLevel (whitePlane s.cfg) (whitePlane s.cfg) s ++ [.write .refreshed]

/-- The expansion of SLEEP (R137). -/
def sleepBody (c : Config) : List Micro :=
  [.call .deepSleep] ++ c.sleepPowerOff.map Micro.emit ++
  [delay Config.tSleep, .emit .busClose, pinRst false, pinDc false, .emit .pinsRelease, .write .sleeping]

/-- The expansion of ATTACH (R139). -/
def attachBody : List Micro := [.emit .busOpen, .emit .pinCfg, .write .attached]

/-! ## Meanings -/

/-- RESET (R131). -/
def execReset (s : State) : Outcome := whenIdle s (whenAttached s (start .reset resetPulse s))

/-- INIT (R132): legal in every DriverState; the preference is latched before the body runs. -/
def execInit (fast : Bool) (s : State) : Outcome :=
  whenIdle s (whenAttached s (start (.init fast) (.write (.preferFast fast) :: initBody fast) s))

/-- DISPLAY_FRAME.1B (R133). -/
def execDisplayFrame1B (s : State) : Outcome :=
  whenIdle s (whenAwake s (whenTagged .oneBit s (whenAttached s (start .displayFrame1B (displayFrame1BBody s) s))))

/-- DISPLAY_FRAME.4L (R134). -/
def execDisplayFrame4L (s : State) : Outcome :=
  whenIdle s (whenAwake s (whenTagged .fourLevel s (whenAttached s (start .displayFrame4L (displayFrame4LBody s) s))))

/-- CLEAR.1B (R135). -/
def execClear1B (s : State) : Outcome :=
  whenIdle s (whenAwake s (whenAttached s (start .clear1B (clear1BBody s) s)))

/-- CLEAR.4L (R136). -/
def execClear4L (s : State) : Outcome :=
  whenIdle s (whenAwake s (whenAttached s (start .clear4L (clear4LBody s) s)))

/-- SLEEP (R137): no DriverState check. -/
def execSleep (s : State) : Outcome := whenIdle s (whenAttached s (start .sleep (sleepBody s.cfg) s))

/-- WAIT_IDLE (R138). -/
def execWaitIdle (s : State) : Outcome := whenIdle s (whenAttached s (start .waitIdle [.poll] s))

/-- ATTACH (R139): honoured only when `SEQ = idle` and `ATTACHED = 0`, ignored otherwise; no check. -/
def execAttach (s : State) : Outcome :=
  whenIdle s (if s.attached then .next s else start .attach attachBody s)

end Sys2Proof.Machine
end

