-- ==== Sys2Proof/Machine/Encoder.lean ====
section
/-! DEFINITION. The operations of the Pixel Encoder (42_pixel_encoder R156, R157, R158). They perform no wire event,
need no attachment, are legal in every DriverState (R150), and never write `IMG`. -/

namespace Sys2Proof.Machine

/-- The common part of the two ENCODEs: DimensionMismatch where the grid fits neither orientation (R151; 60_exceptions
R172), a refusal where the host has not written the grid (10_state R21; 93_implementation_defined U10; log 9). -/
def encodeGrid (op : Instr) (m : ColorMode) (pack : Config → (Nat → Nat → Byte) → List Byte) (s : State) : Outcome :=
  if s.imgWSet && s.imgHSet then
    match orientation s.cfg s.imgW.toNat s.imgH.toNat with
    | none => .next (raise .dimensionMismatch s)
    | some o =>
      if gridWritten s o then start op [.write (.frame m (pack s.cfg (panelGrid s o)))] s
      else .refused .gridUnwritten
  else .refused .gridUnwritten

/-- ENCODE.1B (R156). -/
def execEncode1B (s : State) : Outcome := whenIdle s (encodeGrid .encode1B .oneBit pack1 s)

/-- ENCODE.4L (R157). -/
def execEncode4L (s : State) : Outcome := whenIdle s (encodeGrid .encode4L .fourLevel pack4 s)

/-- DERIVE_PLANES (R158): the frame is not consumed. -/
def execDerivePlanes (s : State) : Outcome :=
  whenIdle s (whenTagged .fourLevel s
    (start .derivePlanes [.write (.planes (deriveBw (frameBytes s)) (deriveRed (frameBytes s)))] s))

end Sys2Proof.Machine
end

