-- ==== Sys2Proof/Machine/Panel.lean ====
section
/-! DEFINITION. The meanings of the 22 panel commands (40_wire_framing R100 to R121). The meaning of a panel command
is its emission: its frames stand next in what the sequencer has to do, and the following steps put them on the wire
one event at a time (10_state R20). What a command does inside the panel is outside the spec (00_scope R4). -/

namespace Sys2Proof.Machine

/-- A command frame and one data frame for each operand byte (30_encoding R70). -/
def emitCommand (op : Byte) (args : List Byte) (s : State) : Outcome := queue (sendCommand op ++ sendArgs args) s

/-- A command frame and one bulk data frame (40_wire_framing R117, R118). -/
def emitPlane (op : Byte) (p : List Byte) (s : State) : Outcome := queue (sendCommand op ++ sendDataBulk p) s

/-- SW_RESET (40_wire_framing R100). -/
def execSwReset (s : State) : Outcome := emitCommand s.cfg.op.swReset [] s

/-- AUTO_WRITE_RED (40_wire_framing R101). -/
def execAutoWriteRed (s : State) : Outcome := emitCommand s.cfg.op.autoWriteRed s.cfg.arg.autoWriteRed s

/-- AUTO_WRITE_BW (40_wire_framing R102). -/
def execAutoWriteBw (s : State) : Outcome := emitCommand s.cfg.op.autoWriteBw s.cfg.arg.autoWriteBw s

/-- GATE_SETTING (40_wire_framing R103). -/
def execGateSetting (s : State) : Outcome := emitCommand s.cfg.op.gateSetting s.cfg.arg.gateSetting s

/-- GATE_VOLTAGE (40_wire_framing R104). -/
def execGateVoltage (s : State) : Outcome := emitCommand s.cfg.op.gateVoltage s.cfg.arg.gateVoltage s

/-- SOURCE_VOLTAGE (40_wire_framing R105). -/
def execSourceVoltage (s : State) : Outcome := emitCommand s.cfg.op.sourceVoltage s.cfg.arg.sourceVoltage s

/-- DATA_ENTRY_MODE (40_wire_framing R106). -/
def execDataEntryMode (s : State) : Outcome := emitCommand s.cfg.op.dataEntryMode s.cfg.arg.dataEntryMode s

/-- BORDER_WAVEFORM (40_wire_framing R107). -/
def execBorderWaveform (s : State) : Outcome := emitCommand s.cfg.op.borderWaveform s.cfg.arg.borderWaveform s

/-- BOOSTER_STRENGTH (40_wire_framing R108). -/
def execBoosterStrength (s : State) : Outcome := emitCommand s.cfg.op.boosterStrength s.cfg.arg.boosterStrength s

/-- TEMP_SENSOR (40_wire_framing R109). -/
def execTempSensor (s : State) : Outcome := emitCommand s.cfg.op.tempSensor s.cfg.arg.tempSensor s

/-- VCOM (40_wire_framing R110). -/
def execVcom (s : State) : Outcome := emitCommand s.cfg.op.vcom s.cfg.arg.vcom s

/-- DISPLAY_OPTION (40_wire_framing R111). -/
def execDisplayOption (fast : Bool) (s : State) : Outcome := 
  emitCommand s.cfg.op.displayOption (s.cfg.displayOption fast) s

/-- RAM_X_WINDOW (40_wire_framing R112). -/
def execRamXWindow (s : State) : Outcome := emitCommand s.cfg.op.ramXWindow s.cfg.arg.ramXWindow s

/-- RAM_Y_WINDOW (40_wire_framing R113). -/
def execRamYWindow (s : State) : Outcome := emitCommand s.cfg.op.ramYWindow s.cfg.arg.ramYWindow s

/-- DISPLAY_UPDATE_CONTROL_2 (40_wire_framing R114). -/
def execDisplayUpdateControl2 (v : Byte) (s : State) : Outcome := 
  emitCommand s.cfg.op.displayUpdateControl2 [v] s

/-- SET_RAM_X_COUNTER (40_wire_framing R115). -/
def execSetRamXCounter (s : State) : Outcome := emitCommand s.cfg.op.setRamXCounter s.cfg.arg.xOrigin s

/-- SET_RAM_Y_COUNTER (40_wire_framing R116). -/
def execSetRamYCounter (s : State) : Outcome := emitCommand s.cfg.op.setRamYCounter s.cfg.arg.yOrigin s

/-- WRITE_RAM_BW (40_wire_framing R117). -/
def execWriteRamBw (p : List Byte) (s : State) : Outcome := emitPlane s.cfg.op.writeRamBw p s

/-- WRITE_RAM_RED (40_wire_framing R118). -/
def execWriteRamRed (p : List Byte) (s : State) : Outcome := emitPlane s.cfg.op.writeRamRed p s

/-- MASTER_ACTIVATION (40_wire_framing R119). -/
def execMasterActivation (s : State) : Outcome := emitCommand s.cfg.op.masterActivation [] s

/-- WRITE_LUT, `LOAD_LUT(t)` (40_wire_framing R97, R120). -/
def execWriteLut (t : List Byte) (s : State) : Outcome := emitCommand s.cfg.op.writeLut t s

/-- DEEP_SLEEP (40_wire_framing R121). -/
def execDeepSleep (s : State) : Outcome := emitCommand s.cfg.op.deepSleep [Config.sleepCheck] s

end Sys2Proof.Machine
end

