-- ==== Sys2Proof/Machine/Reserved.lean ====
section
/-! DEFINITION. The meanings of the command words that select no operation: the malformed modes (60_exceptions R171)
and the reserved words (60_exceptions R176). Each raises its error at decode, before any state is read, and changes
nothing else. -/

namespace Sys2Proof.Machine

/-- The decoder raises an error for a word written while `BUSY_OP = 0` (30_encoding R74). -/
def raiseAtDecode (e : ErrorCode) (s : State) : Outcome := whenIdle s (.next (raise e s))

/-- DISPLAY_FRAME with `MODE[1] = 1` (60_exceptions R171). -/
def execDisplayFrameBadMode (s : State) : Outcome := raiseAtDecode .invalidMode s

/-- CLEAR with `MODE[1] = 1` (60_exceptions R171). -/
def execClearBadMode (s : State) : Outcome := raiseAtDecode .invalidMode s

/-- ENCODE with `MODE[1] = 1` (60_exceptions R171). -/
def execEncodeBadMode (s : State) : Outcome := raiseAtDecode .invalidMode s

/-- A word with `RSV = 1` (60_exceptions R176). -/
def execReservedRsv (s : State) : Outcome := raiseAtDecode .invalidCommand s

/-- A word with `OPC = 0x0` (60_exceptions R176). -/
def execReservedOpc0 (s : State) : Outcome := raiseAtDecode .invalidCommand s

/-- A word with `OPC = 0x7` (60_exceptions R176). -/
def execReservedOpc7 (s : State) : Outcome := raiseAtDecode .invalidCommand s

/-- A word with `OPC = 0xA` (60_exceptions R176). -/
def execReservedOpcA (s : State) : Outcome := raiseAtDecode .invalidCommand s

/-- A word with `OPC = 0xB` (60_exceptions R176). -/
def execReservedOpcB (s : State) : Outcome := raiseAtDecode .invalidCommand s

/-- A word with `OPC = 0xC` (60_exceptions R176). -/
def execReservedOpcC (s : State) : Outcome := raiseAtDecode .invalidCommand s

/-- A word with `OPC = 0xD` (60_exceptions R176). -/
def execReservedOpcD (s : State) : Outcome := raiseAtDecode .invalidCommand s

/-- A word with `OPC = 0xE` (60_exceptions R176). -/
def execReservedOpcE (s : State) : Outcome := raiseAtDecode .invalidCommand s

/-- A word with `OPC = 0xF` (60_exceptions R176). -/
def execReservedOpcF (s : State) : Outcome := raiseAtDecode .invalidCommand s

end Sys2Proof.Machine
end

