-- ==== Sys2Proof/Machine/Dispatch.lean ====
section
/-! DEFINITION. The dispatch: one arm per constructor of Instr, one meaning per arm. -/

namespace Sys2Proof.Machine

def exec (i : Instr) (s : State) : Host.Outcome State Fault Refusal :=
  match i with
  | .reset => Sys2Proof.Machine.execReset s
  | .init fast => Sys2Proof.Machine.execInit fast s
  | .displayFrame1B => Sys2Proof.Machine.execDisplayFrame1B s
  | .displayFrame4L => Sys2Proof.Machine.execDisplayFrame4L s
  | .clear1B => Sys2Proof.Machine.execClear1B s
  | .clear4L => Sys2Proof.Machine.execClear4L s
  | .sleep => Sys2Proof.Machine.execSleep s
  | .waitIdle => Sys2Proof.Machine.execWaitIdle s
  | .encode1B => Sys2Proof.Machine.execEncode1B s
  | .encode4L => Sys2Proof.Machine.execEncode4L s
  | .derivePlanes => Sys2Proof.Machine.execDerivePlanes s
  | .displayFrameBadMode => Sys2Proof.Machine.execDisplayFrameBadMode s
  | .clearBadMode => Sys2Proof.Machine.execClearBadMode s
  | .encodeBadMode => Sys2Proof.Machine.execEncodeBadMode s
  | .reservedRsv => Sys2Proof.Machine.execReservedRsv s
  | .reservedOpc0 => Sys2Proof.Machine.execReservedOpc0 s
  | .reservedOpc7 => Sys2Proof.Machine.execReservedOpc7 s
  | .reservedOpcA => Sys2Proof.Machine.execReservedOpcA s
  | .reservedOpcB => Sys2Proof.Machine.execReservedOpcB s
  | .reservedOpcC => Sys2Proof.Machine.execReservedOpcC s
  | .reservedOpcD => Sys2Proof.Machine.execReservedOpcD s
  | .reservedOpcE => Sys2Proof.Machine.execReservedOpcE s
  | .reservedOpcF => Sys2Proof.Machine.execReservedOpcF s
  | .attach => Sys2Proof.Machine.execAttach s
  | .swReset => Sys2Proof.Machine.execSwReset s
  | .autoWriteRed => Sys2Proof.Machine.execAutoWriteRed s
  | .autoWriteBw => Sys2Proof.Machine.execAutoWriteBw s
  | .gateSetting => Sys2Proof.Machine.execGateSetting s
  | .gateVoltage => Sys2Proof.Machine.execGateVoltage s
  | .sourceVoltage => Sys2Proof.Machine.execSourceVoltage s
  | .dataEntryMode => Sys2Proof.Machine.execDataEntryMode s
  | .borderWaveform => Sys2Proof.Machine.execBorderWaveform s
  | .boosterStrength => Sys2Proof.Machine.execBoosterStrength s
  | .tempSensor => Sys2Proof.Machine.execTempSensor s
  | .vcom => Sys2Proof.Machine.execVcom s
  | .displayOption fast => Sys2Proof.Machine.execDisplayOption fast s
  | .ramXWindow => Sys2Proof.Machine.execRamXWindow s
  | .ramYWindow => Sys2Proof.Machine.execRamYWindow s
  | .displayUpdateControl2 v => Sys2Proof.Machine.execDisplayUpdateControl2 v s
  | .setRamXCounter => Sys2Proof.Machine.execSetRamXCounter s
  | .setRamYCounter => Sys2Proof.Machine.execSetRamYCounter s
  | .writeRamBw p => Sys2Proof.Machine.execWriteRamBw p s
  | .writeRamRed p => Sys2Proof.Machine.execWriteRamRed p s
  | .masterActivation => Sys2Proof.Machine.execMasterActivation s
  | .writeLut t => Sys2Proof.Machine.execWriteLut t s
  | .deepSleep => Sys2Proof.Machine.execDeepSleep s

end Sys2Proof.Machine
end

