-- ==== Sys2Proof/Machine/Sequencer.lean ====
section
/-! DEFINITION. The sequencer's turn: one wire event, one state write, one panel command taken up, or the end of the
operation (00_scope R8; 10_state R20; log 13). -/

namespace Sys2Proof.Machine

/-- What stands before the rest after a busy sample (40_wire_framing R96): after a busy one, a delay and the sample
again; after an idle one, nothing. -/
def pollAgain (c : Config) (busy : Level) (rest : List Micro) : List Micro :=
  if busy = c.busyActive then .emit (.delay Config.tPoll) :: .poll :: rest else rest

/-- One turn of the sequencer, with the level on the busy-sense line and the capability's choice to fail the event.
A failing event ends the operation with BusFailure (60_exceptions R174 (b)); a delay cannot fail (40_wire_framing
R95). A turn while idle does nothing. -/
def advance (busy : Level) (capFail : Bool) (s : State) : Outcome :=
  match s.seq with
  | .idle => .next s
  | .busy _ _ _ [] => .next (complete s)
  | .busy op idx touched (.emit e :: rest) =>
    if capFail && canFail e then .next (failEvent touched s)
    else .next (record e { s with seq := .busy op (idx + 1) true rest })
  | .busy op idx touched (.poll :: rest) =>
    if capFail then .next (failEvent touched s)
    else .next (record (.busy busy) { s with seq := .busy op (idx + 1) true (pollAgain s.cfg busy rest) })
  | .busy op idx touched (.write w :: rest) =>
    .next (applyWrite w { s with seq := .busy op (idx + 1) touched rest })
  | .busy op idx touched (.call i :: rest) => exec i { s with seq := .busy op idx touched rest }

/-- The sequencer's turn when State lists no input for it: the environment's choices are free values (log 6). -/
def advanceFree (s : State) : Outcome :=
  if busyOp s then
    advance (Config.freeBusy s.freeCount) (Config.freeFail s.freeCount) { s with freeCount := s.freeCount + 1 }
  else .next s

end Sys2Proof.Machine
end

