-- ==== Sys2Proof/Machine/Ports.lean ====
section
/-! DEFINITION. The host's ports and the platform's inputs (10_state R27, R29, R30; 41_protocol_driver R139): the
register map, the memory ports, the fetch of a command word from `CMD`, and block reset. -/

namespace Sys2Proof.Machine

/-- The register at an address of the host map (10_state R27). -/
def regAt (a : BitVec 6) : Option HostReg :=
  match a.toNat with
  | 0x00 => some .cmd
  | 0x04 => some .status
  | 0x08 => some .err
  | 0x0C => some .refreshCnt
  | 0x10 => some .partialRefreshLimit
  | 0x14 => some .imgW
  | 0x18 => some .imgH
  | 0x1C => some .fbLen
  | 0x20 => some .plLen
  | 0x24 => some .geomW
  | 0x28 => some .geomH
  | _ => none

/-- What a register reads as while no operation runs; unused high bits are 0 (10_state R27). -/
def regValue (r : HostReg) (s : State) : BitVec 32 :=
  match r with
  | .cmd => 0
  | .status => statusWord s
  | .err => (errCode s.err).setWidth 32
  | .refreshCnt => s.refreshCnt.setWidth 32
  | .partialRefreshLimit => s.partialRefreshLimit.setWidth 32
  | .imgW => s.imgW.setWidth 32
  | .imgH => s.imgH.setWidth 32
  | .fbLen => s.fbLen
  | .plLen => s.plLen
  | .geomW => (BitVec.ofNat 16 s.cfg.w).setWidth 32
  | .geomH => (BitVec.ofNat 16 s.cfg.h).setWidth 32

/-- The command word of a write to `CMD`: bits 7:0 (10_state R27). -/
def commandOf (d : BitVec 32) : Byte := d.extractLsb' 0 8

/-- A write to a register while no operation runs. A write to `CMD` runs the operation of the word (30_encoding R65,
R74); a write to a read-only register changes nothing (log 17); unused high bits are ignored. -/
def regWrite (r : HostReg) (d : BitVec 32) (s : State) : Outcome :=
  match r with
  | .cmd => exec (decodeWord (commandOf d)) s
  | .partialRefreshLimit => .next { s with partialRefreshLimit := d.extractLsb' 0 16 }
  | .imgW => .next { s with imgW := d.extractLsb' 0 16, imgWSet := true }
  | .imgH => .next { s with imgH := d.extractLsb' 0 16, imgHSet := true }
  | .status => .next s
  | .err => .next s
  | .refreshCnt => .next s
  | .fbLen => .next s
  | .plLen => .next s
  | .geomW => .next s
  | .geomH => .next s

/-- A write on the register port: ignored while an operation runs (10_state R27). -/
def hostWrite (a : BitVec 6) (d : BitVec 32) (s : State) : Outcome :=
  match regAt a with
  | none => .fault (.unmappedRegister a)
  | some r => if busyOp s then .next s else regWrite r d s

/-- A read on the register port: while an operation runs, only `STATUS` answers its value, and everything else answers
an unspecified one (10_state R27; log 7). The answer stays on `h_rdata` until the next read or block reset (10_state R29
does not say; DESIGN CHOICE, log 31). -/
def hostRead (a : BitVec 6) (s : State) : Outcome :=
  match regAt a with
  | none => .fault (.unmappedRegister a)
  | some r =>
    if busyOp s && r != .status then
      .next { s with hRdata := Config.freeWord s.freeCount, freeCount := s.freeCount + 1 }
    else .next { s with hRdata := regValue r s }

/-- An element write on the `img_*` port: ignored while an operation runs (10_state R27, R29; log 10). -/
def imgWrite (x y : BitVec 16) (v : Byte) (s : State) : Outcome :=
  if busyOp s then .next s else .next { s with img := s.img.write (imgAddr x.toNat y.toNat) v }

/-- The capacity of a memory the host reads (20_memory R40). -/
def portCapacity (p : ReadPort) (c : Config) : Nat :=
  match p with
  | .fb => c.packedLen
  | .plBw => c.planeLen
  | .plRed => c.planeLen

/-- The byte of a memory that the spec fixes: below the memory's length and written (20_memory R40, R42). -/
def portByte (p : ReadPort) (i : Nat) (s : State) : Option Byte :=
  match p with
  | .fb => if i < s.fbLen.toNat then s.fb.read i else none
  | .plBw => if i < s.plLen.toNat then s.plBw.read i else none
  | .plRed => if i < s.plLen.toNat then s.plRed.read i else none

/-- A byte arrives on the read data of a port, and stays there until the next read on that port or block reset
(10_state R29 does not say; DESIGN CHOICE, log 31). -/
def portAnswer (p : ReadPort) (b : Byte) (s : State) : State :=
  match p with
  | .fb => { s with fbRdata := b }
  | .plBw => { s with plBwRdata := b }
  | .plRed => { s with plRedRdata := b }

/-- A byte read on a memory port: beyond the capacity there is no such address; a byte the spec calls unspecified, and
every byte while an operation runs, is a free value (10_state R27; 93_implementation_defined U10, U11; log 7). -/
def memRead (p : ReadPort) (i : BitVec 32) (s : State) : Outcome :=
  if i.toNat < portCapacity p s.cfg then
    match (if busyOp s then none else portByte p i.toNat s) with
    | some b => .next (portAnswer p b s)
    | none => .next (portAnswer p (Config.freeByte s.freeCount) { s with freeCount := s.freeCount + 1 })
  else .fault (.beyondCapacity p i)

/-- Block reset (10_state R30; 70_reset_and_hazards R195): every register and memory at its reset value, any operation
aborted, no wire event. The configuration, what the environment does next and the count of free values are not the
block's (log 20). -/
def blockReset (s : State) : State :=
  { State.resetWith s.cfg with inputs := s.inputs, freeCount := s.freeCount }

/-- What one input does. -/
def react (i : Input) (s : State) : Outcome :=
  match i with
  | .tick busy capFail => advance busy capFail s
  | .hostWrite a d => hostWrite a d s
  | .hostRead a => hostRead a s
  | .imgWrite x y v => imgWrite x y v s
  | .memRead p j => memRead p j s
  | .attach => exec .attach s
  | .blockReset => .next (blockReset s)

/-- The input that presents a word of the opcode table: a command word on `CMD`, or the `attach` input for the
one-bit word of the row ATTACH (log 15). -/
def fetchInput (nbits w : Nat) : Input :=
  if nbits = 1 then (if w % 2 = 1 then .attach else .tick false false)
  else .hostWrite 0 (BitVec.ofNat 32 (w % 2 ^ nbits))

end Sys2Proof.Machine
end

