-- ==== Sys2Proof/Machine/Step.lean ====
section
/-! DEFINITION. The step: the next input is taken and reacted to; with no input left the sequencer takes its turn
(00_scope R8; log 6). The `done` pulse lasts until the next step (log 18). -/

namespace Sys2Proof.Machine

def step (s : State) : Host.Outcome State Fault Refusal :=
  match s.inputs with
  | [] => advanceFree { s with done := false }
  | i :: rest => react i { s with inputs := rest, done := false }

/-- The word stands where the next step takes its instruction from: on the host's command port, with the sequencer
idle, which the port needs to accept it (30_encoding R65; log 16). -/
def State.withFetchWord (s : State) (nbits w : Nat) : State :=
  { s with seq := .idle, inputs := fetchInput nbits w :: s.inputs }

end Sys2Proof.Machine
end

