-- ==== Sys2Proof/Machine/Programs.lean ====
section
/-! DEFINITION. How a host issues operations (30_encoding R65, R75, R76): the input that presents an operation, the
pseudo-operations, which the host expands and the block knows nothing of, and the end of a run (70_reset_and_hazards
R198). -/

namespace Sys2Proof.Machine

/-- The input by which the environment presents an operation: a write of its command word to `CMD`, or the `attach`
input; panel commands are not presented to the block. -/
def present (c : Config) (i : Instr) : Option Input :=
  match encode c i with
  | .command w => some (.hostWrite 0 (w.setWidth 32))
  | .attachInput => some .attach
  | .wire _ => none

/-- The pseudo-operation `DISPLAY.m` (30_encoding R76); the host issues the second only if `ERR = 0` after the first. -/
def pseudoDisplay : ColorMode → List Instr
  | .oneBit => [.encode1B, .displayFrame1B]
  | .fourLevel => [.encode4L, .displayFrame4L]

/-- The pseudo-operation `WAKE f` (30_encoding R76). -/
def pseudoWake (fast : Bool) : List Instr := [.attach, .init fast]

/-- Whether an input issues an operation: a write to `CMD`, or the platform event ATTACH (30_encoding R65;
41_protocol_driver R139). -/
def issuesOperation : Input → Bool
  | .hostWrite a _ => regAt a == some .cmd
  | .attach => true
  | .tick _ _ => false
  | .hostRead _ => false
  | .imgWrite _ _ _ => false
  | .memRead _ _ => false
  | .blockReset => false

/-- A run has ended when its last operation has: none waits to be issued any more, and the sequencer is idle
(70_reset_and_hazards R198). -/
def runEnded (s : State) : Bool := !busyOp s && !s.inputs.any issuesOperation

end Sys2Proof.Machine
end

