-- ==== Sys2Proof/Safety.lean ====
section
/-! DEFINITION. The terms the statements use: quiet environments, the wire events the spec gives each command, and the
invariant of the machine. Nothing here is used by the step. -/

namespace Sys2Proof.Safety

open Sys2Proof.Machine

/-! ## Environments -/

/-- `n` turns of the sequencer in which no event fails and the busy-sense line reads idle (60_exceptions R174;
70_reset_and_hazards R201: the premise of completion). -/
def quietTurns (c : Config) (n : Nat) : List Input := List.replicate n (.tick (!c.busyActive) false)

/-- The turns of one wait that sees `k` busy samples and then an idle one: a sample and a delay for each busy one. -/
def waitTurns (c : Config) (k : Nat) : List Input :=
  (List.replicate k [Input.tick c.busyActive false, Input.tick c.busyActive false]).flatten ++
  [Input.tick (!c.busyActive) false]

/-- The turns of the sequencer with the given samples and no failing event. -/
def unfailingTurns (levels : List Level) : List Input := levels.map (fun l => .tick l false)

/-- The machine goes from `s` to `t` when the environment gives the listed inputs, one a step. -/
def runsTo (s : State) (ins : List Input) (t : State) : Prop :=
  ∀ rest : List Input,
    Host.Core.run Sys2Proof.core ins.length { s with inputs := ins ++ rest } = .next { t with inputs := rest }

/-- The inputs of a host that presents each operation of a list and then leaves the sequencer `turns` quiet turns
(30_encoding R75: "each issued when the previous one has ended", for enough turns). -/
def hostProgram (c : Config) (turns : Nat) (ops : List Instr) : List Input :=
  ops.flatMap (fun i => (present c i).toList ++ quietTurns c turns)

/-- The operation in progress in `s` ends in `t`, up to the inputs: some number of quiet turns runs to it. -/
def endsQuietly (s t : State) : Prop := ∃ n, runsTo s (quietTurns s.cfg n) t

/-! ## The wire events the spec gives (30_encoding R69; 40_wire_framing R91 to R94) -/

/-- A command frame. -/
def commandFrame (op : Byte) : List WireEvent := [.dc false, .cs false, .tx op, .cs true]

/-- A data frame of one byte. -/
def dataFrame (b : Byte) : List WireEvent := [.dc true, .cs false, .tx b, .cs true]

/-- A bulk data frame. -/
def bulkFrame (bs : List Byte) : List WireEvent := [.dc true, .cs false, .txb bs, .cs true]

/-- A panel command with single-byte operands (30_encoding R70). -/
def commandEvents (op : Byte) (args : List Byte) : List WireEvent := commandFrame op ++ args.flatMap dataFrame

/-- A plane write (40_wire_framing R117, R118). -/
def planeEvents (op : Byte) (p : List Byte) : List WireEvent := commandFrame op ++ bulkFrame p

/-- The wire events of a panel command; none for an operation of the host or the platform. -/
def panelEvents (c : Config) : Instr → List WireEvent
  | .swReset => commandEvents c.op.swReset []
  | .autoWriteRed => commandEvents c.op.autoWriteRed c.arg.autoWriteRed
  | .autoWriteBw => commandEvents c.op.autoWriteBw c.arg.autoWriteBw
  | .gateSetting => commandEvents c.op.gateSetting c.arg.gateSetting
  | .gateVoltage => commandEvents c.op.gateVoltage c.arg.gateVoltage
  | .sourceVoltage => commandEvents c.op.sourceVoltage c.arg.sourceVoltage
  | .dataEntryMode => commandEvents c.op.dataEntryMode c.arg.dataEntryMode
  | .borderWaveform => commandEvents c.op.borderWaveform c.arg.borderWaveform
  | .boosterStrength => commandEvents c.op.boosterStrength c.arg.boosterStrength
  | .tempSensor => commandEvents c.op.tempSensor c.arg.tempSensor
  | .vcom => commandEvents c.op.vcom c.arg.vcom
  | .displayOption fast => commandEvents c.op.displayOption (c.displayOption fast)
  | .ramXWindow => commandEvents c.op.ramXWindow c.arg.ramXWindow
  | .ramYWindow => commandEvents c.op.ramYWindow c.arg.ramYWindow
  | .displayUpdateControl2 v => commandEvents c.op.displayUpdateControl2 [v]
  | .setRamXCounter => commandEvents c.op.setRamXCounter c.arg.xOrigin
  | .setRamYCounter => commandEvents c.op.setRamYCounter c.arg.yOrigin
  | .writeRamBw p => planeEvents c.op.writeRamBw p
  | .writeRamRed p => planeEvents c.op.writeRamRed p
  | .masterActivation => commandEvents c.op.masterActivation []
  | .writeLut t => commandEvents c.op.writeLut t
  | .deepSleep => commandEvents c.op.deepSleep [0xA5]
  | .reset | .init _ | .displayFrame1B | .displayFrame4L | .clear1B | .clear4L | .sleep | .waitIdle
  | .encode1B | .encode4L | .derivePlanes | .displayFrameBadMode | .clearBadMode | .encodeBadMode
  | .reservedRsv | .reservedOpc0 | .reservedOpc7 | .reservedOpcA | .reservedOpcB | .reservedOpcC
  | .reservedOpcD | .reservedOpcE | .reservedOpcF | .attach => []

/-- Whether an instruction is a panel command (40_wire_framing R99). -/
def isPanelCommand : Instr → Bool
  | .swReset | .autoWriteRed | .autoWriteBw | .gateSetting | .gateVoltage | .sourceVoltage | .dataEntryMode
  | .borderWaveform | .boosterStrength | .tempSensor | .vcom | .displayOption _ | .ramXWindow | .ramYWindow
  | .displayUpdateControl2 _ | .setRamXCounter | .setRamYCounter | .writeRamBw _ | .writeRamRed _
  | .masterActivation | .writeLut _ | .deepSleep => true
  | .reset | .init _ | .displayFrame1B | .displayFrame4L | .clear1B | .clear4L | .sleep | .waitIdle
  | .encode1B | .encode4L | .derivePlanes | .displayFrameBadMode | .clearBadMode | .encodeBadMode
  | .reservedRsv | .reservedOpc0 | .reservedOpc7 | .reservedOpcA | .reservedOpcB | .reservedOpcC
  | .reservedOpcD | .reservedOpcE | .reservedOpcF | .attach => false

/-- The wire events of the reset pulse (41_protocol_driver R131). -/
def resetPulseEvents : List WireEvent := [.rst true, .delay 200, .rst false, .delay 5, .rst true, .delay 200]

/-- The wire events of `INIT_BODY(f)` when every sample reads idle (41_protocol_driver R132). -/
def initEvents (c : Config) (fast : Bool) : List WireEvent :=
  resetPulseEvents ++
  commandEvents c.op.swReset [] ++ [.delay 300] ++
  commandEvents c.op.autoWriteRed c.arg.autoWriteRed ++ [.busy (!c.busyActive)] ++
  commandEvents c.op.autoWriteBw c.arg.autoWriteBw ++ [.busy (!c.busyActive)] ++
  commandEvents c.op.gateSetting c.arg.gateSetting ++
  commandEvents c.op.gateVoltage c.arg.gateVoltage ++
  commandEvents c.op.sourceVoltage c.arg.sourceVoltage ++
  commandEvents c.op.dataEntryMode c.arg.dataEntryMode ++
  commandEvents c.op.borderWaveform c.arg.borderWaveform ++
  commandEvents c.op.boosterStrength c.arg.boosterStrength ++
  commandEvents c.op.tempSensor c.arg.tempSensor ++
  commandEvents c.op.vcom c.arg.vcom ++
  commandEvents c.op.displayOption (c.displayOption fast) ++
  commandEvents c.op.ramXWindow c.arg.ramXWindow ++
  commandEvents c.op.ramYWindow c.arg.ramYWindow ++
  commandEvents c.op.displayUpdateControl2 [0xCF]

/-- The events of the nested INIT, where it is taken (41_protocol_driver R141 (a)). -/
def nestedInitEvents (s : State) : List WireEvent :=
  if s.dstate = .uninitialized then initEvents s.cfg s.prefFast else []

/-- The events of `SET_COUNTERS_ORIGIN()` (40_wire_framing R98). -/
def originEvents (c : Config) : List WireEvent :=
  commandEvents c.op.setRamXCounter c.arg.xOrigin ++ commandEvents c.op.setRamYCounter c.arg.yOrigin

/-- The events of a OneBit display or clear over a plane, after any nested INIT (41_protocol_driver R133, R135). -/
def oneBitEvents (s : State) (plane : List Byte) : List WireEvent :=
  originEvents s.cfg ++ planeEvents s.cfg.op.writeRamBw plane ++
  commandEvents s.cfg.op.writeLut (s.cfg.lut .oneBit s.prefFast) ++
  commandEvents s.cfg.op.masterActivation [] ++ [.busy (!s.cfg.busyActive)]

/-- The events of a FourLevel display or clear over two planes, after any nested INIT (41_protocol_driver R134, R136). -/
def fourLevelEvents (s : State) (bw red : List Byte) : List WireEvent :=
  originEvents s.cfg ++ planeEvents s.cfg.op.writeRamBw bw ++
  (if s.cfg.recountBeforeRed then originEvents s.cfg else []) ++
  planeEvents s.cfg.op.writeRamRed red ++
  commandEvents s.cfg.op.writeLut (s.cfg.lut .fourLevel s.prefFast) ++
  commandEvents s.cfg.op.displayUpdateControl2 [0xC7] ++
  commandEvents s.cfg.op.masterActivation [] ++ [.busy (!s.cfg.busyActive)]

/-- The state after the nested INIT has or has not been taken, with the wire as a display or clear of the same
operation leaves it: what 41_protocol_driver R133 to R136 write in common. -/
def afterShow (s : State) (events : List WireEvent) : State :=
  { s with
    trace := s.trace ++ nestedInitEvents s ++ events
    dstate := if s.dstate = .uninitialized then .ready else s.dstate
    rstO := if s.dstate = .uninitialized then some true else s.rstO
    panelUndef := if s.dstate = .uninitialized then false else s.panelUndef
    dcO := some false
    csO := some true
    refreshCnt := 0
    err := .none
    done := true }

/-! ## Byte traces (00_scope R9) -/

/-- The byte trace of a panel command (30_encoding R70). -/
def commandBytes (op : Byte) (args : List Byte) : List WireByte := (.cmd, op) :: args.map (fun b => (.data, b))

/-- `I(f)`, the byte trace of `INIT_BODY(f)` (41_protocol_driver R142). -/
def initBytes (c : Config) (fast : Bool) : List WireByte :=
  commandBytes c.op.swReset [] ++
  commandBytes c.op.autoWriteRed c.arg.autoWriteRed ++
  commandBytes c.op.autoWriteBw c.arg.autoWriteBw ++
  commandBytes c.op.gateSetting c.arg.gateSetting ++
  commandBytes c.op.gateVoltage c.arg.gateVoltage ++
  commandBytes c.op.sourceVoltage c.arg.sourceVoltage ++
  commandBytes c.op.dataEntryMode c.arg.dataEntryMode ++
  commandBytes c.op.borderWaveform c.arg.borderWaveform ++
  commandBytes c.op.boosterStrength c.arg.boosterStrength ++
  commandBytes c.op.tempSensor c.arg.tempSensor ++
  commandBytes c.op.vcom c.arg.vcom ++
  commandBytes c.op.displayOption (c.displayOption fast) ++
  commandBytes c.op.ramXWindow c.arg.ramXWindow ++
  commandBytes c.op.ramYWindow c.arg.ramYWindow ++
  commandBytes c.op.displayUpdateControl2 [0xCF]

/-- `I(PREF_FAST)` where DISPLAY_FRAME or CLEAR starts in Uninitialized, else nothing (41_protocol_driver R142). -/
def nestedInitBytes (s : State) : List WireByte :=
  if s.dstate = .uninitialized then initBytes s.cfg s.prefFast else []

/-- `O`, the byte trace of `SET_COUNTERS_ORIGIN()` (41_protocol_driver R142). -/
def originBytes (c : Config) : List WireByte :=
  commandBytes c.op.setRamXCounter c.arg.xOrigin ++ commandBytes c.op.setRamYCounter c.arg.yOrigin

/-- The byte trace of a OneBit display or clear in Ready (41_protocol_driver R142). -/
def oneBitBytes (s : State) (plane : List Byte) : List WireByte :=
  originBytes s.cfg ++ commandBytes s.cfg.op.writeRamBw plane ++
  commandBytes s.cfg.op.writeLut (s.cfg.lut .oneBit s.prefFast) ++ commandBytes s.cfg.op.masterActivation []

/-- The byte trace of a FourLevel display or clear in Ready (41_protocol_driver R142). -/
def fourLevelBytes (s : State) (bw red : List Byte) : List WireByte :=
  originBytes s.cfg ++ commandBytes s.cfg.op.writeRamBw bw ++
  (if s.cfg.recountBeforeRed then originBytes s.cfg else []) ++
  commandBytes s.cfg.op.writeRamRed red ++
  commandBytes s.cfg.op.writeLut (s.cfg.lut .fourLevel s.prefFast) ++
  commandBytes s.cfg.op.displayUpdateControl2 [0xC7] ++ commandBytes s.cfg.op.masterActivation []

/-! ## Operations that fail -/

/-- Turns of the sequencer, each with its sample and the capability's choice to fail the event. -/
def turnsOf (choices : List (Level × Bool)) : List Input := choices.map (fun x => .tick x.1 x.2)

/-- The state `s` in which an operation started, with what every operation that fails leaves in `u` (60_exceptions R175):
the error, the events performed and the levels of the pins they drove, and the ghost flag, set if there was an event
(10_state R28). Everything else is as in `s`. -/
def afterFailure (s u : State) : State :=
  { s with
    err := .busFailure
    trace := u.trace
    rstO := u.rstO
    dcO := u.dcO
    csO := u.csO
    panelUndef := s.panelUndef || decide (u.trace ≠ s.trace)
    done := u.done
    inputs := [] }

/-- What a failing DISPLAY_FRAME or CLEAR that started in `s` leaves in DSTATE (10_state R12, last row): Ready where the
nested INIT had completed, which put all of `I(PREF_FAST)` on the wire; else what it was, with no byte beyond it. -/
def nestedInitOutcome (s u : State) : Prop :=
  (s.dstate ≠ .uninitialized → u.dstate = s.dstate) ∧
  (s.dstate = .uninitialized →
    (u.dstate = .uninitialized ∧ byteTrace u.trace <+: byteTrace s.trace ++ initBytes s.cfg s.prefFast) ∨
    (u.dstate = .ready ∧ byteTrace s.trace ++ initBytes s.cfg s.prefFast <+: byteTrace u.trace))

/-! ## The invariant -/

/-- Every listed address is below a capacity. -/
abbrev within (m : Memory) (cap : Nat) : Prop := ∀ x ∈ m, x.1 < cap

/-- The operations whose expansion holds `INIT_BODY` (41_protocol_driver R132 to R136). -/
def mayInitialise : Instr → Bool
  | .init _ => true
  | .displayFrame1B => true
  | .displayFrame4L => true
  | .clear1B => true
  | .clear4L => true
  | _ => false

/-- The operations that are rejected while Sleeping (60_exceptions R173). -/
def needsAwake : Instr → Bool
  | .displayFrame1B => true
  | .displayFrame4L => true
  | .clear1B => true
  | .clear4L => true
  | _ => false

/-- What an operation's expansion may hold: buffers of the right length, panel commands with well-formed operands, and
each DriverState or attachment write only in the operation that makes it. -/
def microSound (c : Config) (op : Instr) : Micro → Prop
  | .emit _ => True
  | .poll => True
  | .call i => isPanelCommand i = true ∧ i.wellFormed c = true
  | .write (.frame m bs) => bs.length = c.frameLen m
  | .write (.planes bw red) => bw.length = c.planeLen ∧ red.length = c.planeLen
  | .write .ready => mayInitialise op = true
  | .write .sleeping => op = .sleep
  | .write .attached => op = .attach
  | .write (.preferFast f) => op = .init f
  | .write .panelKnown => True
  | .write .refreshed => True
  | .write .consumed => True

/-- Whether an element drives a pin, now or when it is taken up. -/
def drivesPin : Micro → Bool
  | .emit (.rst _) => true
  | .emit (.dc _) => true
  | .emit (.cs _) => true
  | .call _ => true
  | _ => false

/-- Nothing stands after a state write: where the list holds it, it is the last element. -/
def nothingAfter (w : StateWrite) : List Micro → Bool
  | [] => true
  | m :: rest => if m = .write w then rest.isEmpty else nothingAfter w rest

/-- The sequencer position is sound: its elements are, nothing stands after the write of Sleeping (41_protocol_driver
R137), and in INIT nothing after the write of Ready (R132: "last, only on completion"), nothing in it drives a pin while
the pins are released, and an operation that needs the panel awake does not run while it sleeps. -/
def seqSound (s : State) : Prop :=
  match s.seq with
  | .idle => True
  | .busy op _ _ rest =>
    (∀ m ∈ rest, microSound s.cfg op m) ∧ nothingAfter .sleeping rest = true ∧
    (∀ fast, op = .init fast → nothingAfter .ready rest = true) ∧
    (s.attached = false → ∀ m ∈ rest, drivesPin m = false) ∧
    (needsAwake op = true → s.dstate ≠ .sleeping)

/-- The invariant of the machine: an admitted configuration (00_scope R5), canonical memories within their capacities
(20_memory R40), a valid frame is whole and of the length of its mode (10_state R22), the refresh counter is 0
(10_state R13), released pins have no level (10_state R29), and the sequencer position is sound. -/
structure Inv (s : State) : Prop where
  admitted : s.cfg.Admitted
  imgCanonical : s.img.wf
  fbCanonical : s.fb.wf
  plBwCanonical : s.plBw.wf
  plRedCanonical : s.plRed.wf
  fbWithin : within s.fb s.cfg.packedLen
  plBwWithin : within s.plBw s.cfg.planeLen
  plRedWithin : within s.plRed s.cfg.planeLen
  frameWhole : s.fbValid = true →
    s.fbLen.toNat = s.cfg.frameLen s.fbMode ∧ ∀ i < s.fbLen.toNat, (s.fb.read i).isSome = true
  refreshZero : s.refreshCnt = 0
  released : s.attached = false → s.rstO = none ∧ s.dcO = none ∧ s.csO = none
  sequencer : seqSound s

end Sys2Proof.Safety
end

