-- ==== Sys2Proof/Certificates/Slice0/Obligations.lean ====
section
/-! DEFINITION. The statements for the provers. Every driver operation is stated as what `exec` answers and what the
sequencer then does with it: `endsQuietly t u` says that some number of turns, in which no event fails and every busy
sample reads idle, take the machine from `t` exactly to `u`. An equation with a record update of `s` is a whole frame:
every field it does not name is unchanged. Every statement about all states is one about all configurations, since the
configuration stands in the state (log 1). Three clauses that recur are the model's own choices and rest on no rule: one
event or state write a step (log 13), `done` high for exactly the step after an end (log 18), the environment as the
list `inputs` (log 6). -/

open Sys2Proof Sys2Proof.Machine Sys2Proof.Safety

/-! ## Encodings -/

/-- 30_encoding R65 to R70, 40_wire_framing R99: decoding the encoding of a well-formed instruction gives it back, in
all three spaces. -/
def Obligations.DecodeOfEncodeIsIdentity : Prop :=
  ∀ (c : Config) (i : Instr), c.Admitted → i.wellFormed c = true → decode c (encode c i) = .ok i

/-- 30_encoding R66, 95_test_vectors T21 to T29d: words written out from the format decode to their operations. -/
def Obligations.WrittenCommandWordsDecode : Prop :=
  decodeWord 0b00000001 = .reset ∧ decodeWord 0b00000010 = .init false ∧ decodeWord 0b01000010 = .init true ∧
  decodeWord 0b01010010 = .init true ∧ decodeWord 0b00100010 = .init false ∧
  decodeWord 0b00010011 = .displayFrame4L ∧ decodeWord 0b01000011 = .displayFrame1B ∧
  decodeWord 0b00000100 = .clear1B ∧ decodeWord 0b00010100 = .clear4L ∧ decodeWord 0b00000101 = .sleep ∧
  decodeWord 0b00000110 = .waitIdle ∧ decodeWord 0b00001000 = .encode1B ∧ decodeWord 0b00011000 = .encode4L ∧
  decodeWord 0b00001001 = .derivePlanes ∧ decodeWord 0b00100011 = .displayFrameBadMode ∧
  decodeWord 0b10100011 = .reservedRsv ∧ decodeWord 0b00011011 = .reservedOpcB

/-- 30_encoding R66, R72, R74: every word with `RSV` 0 and a defined `OPC` decodes by the bits its operation uses alone:
`FAST` for INIT, `MODE` for DISPLAY_FRAME, CLEAR and ENCODE, none for the others. -/
def Obligations.UnusedWordBitsAreIgnored : Prop :=
  ∀ w : Byte, w.getLsbD 7 = false →
    (w.extractLsb' 0 4 = 0x1 → decodeWord w = .reset) ∧
    (w.extractLsb' 0 4 = 0x2 → decodeWord w = .init (w.getLsbD 6)) ∧
    (w.extractLsb' 0 4 = 0x3 → w.extractLsb' 4 2 = 0b00 → decodeWord w = .displayFrame1B) ∧
    (w.extractLsb' 0 4 = 0x3 → w.extractLsb' 4 2 = 0b01 → decodeWord w = .displayFrame4L) ∧
    (w.extractLsb' 0 4 = 0x4 → w.extractLsb' 4 2 = 0b00 → decodeWord w = .clear1B) ∧
    (w.extractLsb' 0 4 = 0x4 → w.extractLsb' 4 2 = 0b01 → decodeWord w = .clear4L) ∧
    (w.extractLsb' 0 4 = 0x5 → decodeWord w = .sleep) ∧
    (w.extractLsb' 0 4 = 0x6 → decodeWord w = .waitIdle) ∧
    (w.extractLsb' 0 4 = 0x8 → w.extractLsb' 4 2 = 0b00 → decodeWord w = .encode1B) ∧
    (w.extractLsb' 0 4 = 0x8 → w.extractLsb' 4 2 = 0b01 → decodeWord w = .encode4L) ∧
    (w.extractLsb' 0 4 = 0x9 → decodeWord w = .derivePlanes)

/-- 30_encoding R70, 00_scope R9: the byte trace of what a panel command emits is its encoding, wherever
data/command-select stood before. -/
def Obligations.EmittedBytesAreTheEncoding : Prop :=
  ∀ (c : Config) (i : Instr) (d : Option Level), isPanelCommand i = true →
    encode c i = .wire (byteTraceFrom d (panelEvents c i))

/-! ## The step -/

/-- 30_encoding R65, R74; 41_protocol_driver R139: a step runs the instruction its input stands for. The host's command
word is decoded and run when the sequencer is idle; the `attach` input runs ATTACH; a sequencer that has a panel command
before it runs that command. Around `exec` the step takes the input and ends the `done` pulse. -/
def Obligations.StepRunsDecodedInstruction : Prop :=
  (∀ (s : State) (d : BitVec 32) (rest : List Input) (i : Instr),
    s.inputs = .hostWrite 0 d :: rest → s.seq = .idle → decode s.cfg (.command (commandOf d)) = .ok i →
    i.wellFormed s.cfg = true → step s = exec i { s with inputs := rest, done := false }) ∧
  (∀ (s : State) (rest : List Input) (i : Instr),
    s.inputs = .attach :: rest → decode s.cfg .attachInput = .ok i →
    step s = exec i { s with inputs := rest, done := false }) ∧
  (∀ (s : State) (l : Level) (f : Bool) (rest : List Input) (op : Instr) (idx : Nat) (touched : Bool) (i : Instr)
    (more : List Micro),
    s.inputs = .tick l f :: rest → s.seq = .busy op idx touched (.call i :: more) →
    step s = exec i { s with inputs := rest, done := false, seq := .busy op idx touched more })

/-- The model's own choice (log 6): with no input left and the sequencer idle, a step changes nothing but the `done`
pulse. -/
def Obligations.IdleStepChangesOnlyDone : Prop :=
  ∀ s : State, s.inputs = [] → s.seq = .idle → step s = .next { s with done := false }

/-! ## Driver operations -/

/-- 41_protocol_driver R131: RESET drives the pulse, clears the ghost, and leaves DSTATE and everything else. -/
def Obligations.ResetDrivesThePulse : Prop :=
  ∀ s : State, s.seq = .idle → s.attached = true →
    ∃ t, exec .reset s = .next t ∧ busyOp t = true ∧
      endsQuietly t
        { s with
          trace := s.trace ++ [.rst true, .delay 200, .rst false, .delay 5, .rst true, .delay 200]
          rstO := some true
          panelUndef := false
          err := .none
          done := true }

/-- 41_protocol_driver R132: INIT is legal in every DriverState, latches its argument, emits the fixed sequence and ends
in Ready. -/
def Obligations.InitRunsTheFixedSequence : Prop :=
  ∀ (s : State) (fast : Bool), s.seq = .idle → s.attached = true →
    ∃ t, exec (.init fast) s = .next t ∧ busyOp t = true ∧
      endsQuietly t
        { s with
          trace := s.trace ++ initEvents s.cfg fast
          prefFast := fast
          dstate := .ready
          rstO := some true
          dcO := some true
          csO := some true
          panelUndef := false
          err := .none
          done := true }

/-- 41_protocol_driver R133: DISPLAY_FRAME.1B, with the nested INIT from Uninitialized. -/
def Obligations.DisplayFrame1BShowsTheFrame : Prop :=
  ∀ s : State, s.seq = .idle → s.dstate ≠ .sleeping → s.fbValid = true → s.fbMode = .oneBit → s.attached = true →
    ∃ t, exec .displayFrame1B s = .next t ∧ busyOp t = true ∧
      endsQuietly t { afterShow s (oneBitEvents s (frameBytes s)) with fbValid := false }

/-- 41_protocol_driver R134: DISPLAY_FRAME.4L derives the two planes and writes both. -/
def Obligations.DisplayFrame4LShowsBothPlanes : Prop :=
  ∀ s : State, s.seq = .idle → s.dstate ≠ .sleeping → s.fbValid = true → s.fbMode = .fourLevel → s.attached = true →
    ∃ t, exec .displayFrame4L s = .next t ∧ busyOp t = true ∧
      endsQuietly t
        { afterShow s (fourLevelEvents s (deriveBw (frameBytes s)) (deriveRed (frameBytes s))) with
          fbValid := false
          plBw := Memory.ofBytes (deriveBw (frameBytes s))
          plRed := Memory.ofBytes (deriveRed (frameBytes s))
          plLen := s.fbLen / 2 }

/-- 41_protocol_driver R135: CLEAR.1B writes one white plane; FB and its tag are untouched. -/
def Obligations.Clear1BShowsWhite : Prop :=
  ∀ s : State, s.seq = .idle → s.dstate ≠ .sleeping → s.attached = true →
    ∃ t, exec .clear1B s = .next t ∧ busyOp t = true ∧
      endsQuietly t (afterShow s (oneBitEvents s (List.replicate s.cfg.planeLen 0xFF)))

/-- 41_protocol_driver R136: CLEAR.4L writes two white planes; PL_BW and PL_RED are untouched. -/
def Obligations.Clear4LShowsWhiteTwice : Prop :=
  ∀ s : State, s.seq = .idle → s.dstate ≠ .sleeping → s.attached = true →
    ∃ t, exec .clear4L s = .next t ∧ busyOp t = true ∧
      endsQuietly t
        (afterShow s
          (fourLevelEvents s (List.replicate s.cfg.planeLen 0xFF) (List.replicate s.cfg.planeLen 0xFF)))

/-- 41_protocol_driver R137: SLEEP, from every DriverState. -/
def Obligations.SleepReleasesBusAndPins : Prop :=
  ∀ s : State, s.seq = .idle → s.attached = true →
    ∃ t, exec .sleep s = .next t ∧ busyOp t = true ∧
      endsQuietly t
        { s with
          trace := s.trace ++ commandEvents s.cfg.op.deepSleep [0xA5] ++ s.cfg.sleepPowerOff ++
            [.delay 2000, .busClose, .rst false, .dc false, .pinsRelease]
          dstate := .sleeping
          attached := false
          rstO := none
          dcO := none
          csO := none
          err := .none
          done := true }

/-- 41_protocol_driver R138, 40_wire_framing R96: after `k` busy samples and an idle one WAIT_IDLE has performed exactly
`k` delays of 10 ms, and has written nothing. -/
def Obligations.WaitIdleDelaysOncePerBusySample : Prop :=
  ∀ (s : State) (k : Nat), s.seq = .idle → s.attached = true →
    ∃ t, exec .waitIdle s = .next t ∧ busyOp t = true ∧
      runsTo t (waitTurns s.cfg k ++ quietTurns s.cfg 1)
        { s with
          trace := s.trace ++ (List.replicate k [WireEvent.busy s.cfg.busyActive, WireEvent.delay 10]).flatten ++
            [.busy (!s.cfg.busyActive)]
          err := .none
          done := true }

/-- 70_reset_and_hazards R201: a wait that never sees idle never ends, and the block stays busy. -/
def Obligations.WaitIdleHasNoTimeout : Prop :=
  ∀ (s : State) (op : Instr) (idx : Nat) (touched : Bool) (more : List Micro) (n : Nat),
    s.seq = .busy op idx touched (.poll :: more) →
    ∃ u, Host.Core.run Sys2Proof.core n { s with inputs := unfailingTurns (List.replicate n s.cfg.busyActive) } =
        .next u ∧ busyOp u = true ∧ u.done = (if n = 0 then s.done else false)

/-- 41_protocol_driver R139: ATTACH claims bus and pins when idle and unattached, and is ignored otherwise. -/
def Obligations.AttachClaimsBusAndPins : Prop :=
  (∀ s : State, s.seq = .idle → s.attached = false →
    ∃ t, exec .attach s = .next t ∧ busyOp t = true ∧
      endsQuietly t
        { s with
          trace := s.trace ++ [.busOpen, .pinCfg]
          attached := true
          rstO := none
          dcO := none
          csO := none
          err := .none
          done := true }) ∧
  (∀ s : State, s.seq ≠ .idle ∨ s.attached = true → exec .attach s = .next s)

/-- 60_exceptions R187, 30_encoding R76 (`WAKE f`): a sleeping, released block is brought back to Ready by ATTACH and
then INIT, the host writing INIT's command word when ATTACH has ended. -/
def Obligations.AttachThenInitWakes : Prop :=
  ∀ (s : State) (fast : Bool), s.seq = .idle → s.dstate = .sleeping → s.attached = false →
    ∃ m n : Nat,
      runsTo s
        (.attach :: quietTurns s.cfg m ++
          .hostWrite 0 ((commandWord fast 0 0x2).setWidth 32) :: quietTurns s.cfg n)
        { s with
          trace := s.trace ++ [.busOpen, .pinCfg] ++ initEvents s.cfg fast
          attached := true
          prefFast := fast
          dstate := .ready
          rstO := some true
          dcO := some true
          csO := some true
          panelUndef := false
          err := .none
          done := true }

/-! ## Panel commands -/

/-- 40_wire_framing R90 to R94, R100 to R121: inside an operation every panel command puts its command frame and its
data frames on the wire, in order, and changes nothing else but the pins and the count of events. -/
def Obligations.PanelCommandsEmitTheirFrames : Prop :=
  ∀ (i : Instr) (s : State) (op : Instr) (idx : Nat) (touched : Bool) (more : List Micro),
    isPanelCommand i = true → s.seq = .busy op idx touched more →
    ∃ t, exec i s = .next t ∧
      runsTo t (quietTurns s.cfg (panelEvents s.cfg i).length)
        { s with
          seq := .busy op (idx + (panelEvents s.cfg i).length) true more
          trace := s.trace ++ panelEvents s.cfg i
          dcO := (panelEvents s.cfg i).foldl dcAfter s.dcO
          csO := some true
          done := false }

/-- The model's own choice (log 14): a panel command taken up while no operation runs has no step. -/
def Obligations.PanelCommandsStopOutsideAnOperation : Prop :=
  ∀ (i : Instr) (s : State), isPanelCommand i = true → s.seq = .idle → exec i s = .refused .outsideOperation

/-! ## Pixel Encoder operations -/

/-- 42_pixel_encoder R151: a grid of the panel's dimensions is taken directly, one of the exchanged dimensions (not
square) transposed, any other not at all; the grid is written where every element under the panel is; and the panel grid
of a written grid is the input's element at the same coordinates (direct) or at `(H - 1 - py, px)` (transposed). -/
def Obligations.PanelGridReadsTheInput : Prop :=
  ∀ s : State,
    (∀ gw gh : Nat,
      (orientation s.cfg gw gh = some .direct ↔ gw = s.cfg.w ∧ gh = s.cfg.h) ∧
      (orientation s.cfg gw gh = some .transposed ↔
        (gw = s.cfg.h ∧ gh = s.cfg.w) ∧ ¬(gw = s.cfg.w ∧ gh = s.cfg.h)) ∧
      (orientation s.cfg gw gh = none ↔ ¬(gw = s.cfg.w ∧ gh = s.cfg.h) ∧ ¬(gw = s.cfg.h ∧ gh = s.cfg.w))) ∧
    (gridWritten s .direct = true ↔
      ∀ px py, px < s.cfg.w → py < s.cfg.h → (s.img.read (imgAddr px py)).isSome = true) ∧
    (gridWritten s .transposed = true ↔
      ∀ px py, px < s.cfg.w → py < s.cfg.h → (s.img.read (imgAddr (s.cfg.h - 1 - py) px)).isSome = true) ∧
    (gridWritten s .direct = true → ∀ px py, px < s.cfg.w → py < s.cfg.h →
      s.img.read (imgAddr px py) = some (panelGrid s .direct px py)) ∧
    (gridWritten s .transposed = true → ∀ px py, px < s.cfg.w → py < s.cfg.h →
      s.img.read (imgAddr (s.cfg.h - 1 - py) px) = some (panelGrid s .transposed px py))

/-- 42_pixel_encoder R156: ENCODE.1B writes the packed buffer and its tag, and nothing else. -/
def Obligations.Encode1BWritesTheFrame : Prop :=
  ∀ (s : State) (o : Orientation), s.cfg.Admitted → s.seq = .idle → s.imgWSet = true → s.imgHSet = true →
    orientation s.cfg s.imgW.toNat s.imgH.toNat = some o → gridWritten s o = true →
    ∃ t, exec .encode1B s = .next t ∧ busyOp t = true ∧
      endsQuietly t
        { s with
          fb := Memory.ofBytes (pack1 s.cfg (panelGrid s o))
          fbLen := BitVec.ofNat 32 (ceilDiv s.cfg.w 8 * s.cfg.h)
          fbMode := .oneBit
          fbValid := true
          err := .none
          done := true }

/-- 42_pixel_encoder R157: ENCODE.4L writes the packed buffer and its tag, and nothing else. -/
def Obligations.Encode4LWritesTheFrame : Prop :=
  ∀ (s : State) (o : Orientation), s.cfg.Admitted → s.seq = .idle → s.imgWSet = true → s.imgHSet = true →
    orientation s.cfg s.imgW.toNat s.imgH.toNat = some o → gridWritten s o = true →
    ∃ t, exec .encode4L s = .next t ∧ busyOp t = true ∧
      endsQuietly t
        { s with
          fb := Memory.ofBytes (pack4 s.cfg (panelGrid s o))
          fbLen := BitVec.ofNat 32 (ceilDiv s.cfg.w 4 * s.cfg.h)
          fbMode := .fourLevel
          fbValid := true
          err := .none
          done := true }

/-- 42_pixel_encoder R158: DERIVE_PLANES writes the two planes and their length; the frame is not consumed. -/
def Obligations.DerivePlanesWritesBothPlanes : Prop :=
  ∀ s : State, s.seq = .idle → s.fbValid = true → s.fbMode = .fourLevel →
    ∃ t, exec .derivePlanes s = .next t ∧ busyOp t = true ∧
      endsQuietly t
        { s with
          plBw := Memory.ofBytes (deriveBw (frameBytes s))
          plRed := Memory.ofBytes (deriveRed (frameBytes s))
          plLen := s.fbLen / 2
          err := .none
          done := true }

/-- 42_pixel_encoder R152, 95_test_vectors S1: the OneBit buffer has `ceil(W/8) * H` bytes, and bit `7 - k` of byte `i`
is 0 exactly when the panel pixel of linear address `8i + k` is black. -/
def Obligations.Pack1ClearsExactlyTheBlackPixels : Prop :=
  ∀ (c : Config) (p : Nat → Nat → Byte), c.Admitted →
    (pack1 c p).length = ceilDiv c.w 8 * c.h ∧
    ∀ i k, i < ceilDiv c.w 8 * c.h → k ≤ 7 →
      ((pack1 c p).getD i 0).getLsbD (7 - k) = decide (p ((8 * i + k) % c.w) ((8 * i + k) / c.w) ≠ 0)

/-- 42_pixel_encoder R153, R161: the FourLevel buffer has `ceil(W/4) * H` bytes, and lane `m` of byte
`py * (W/4) + g` is the top two bits of panel sample `(4g + m, py)`. -/
def Obligations.Pack4KeepsTheTopTwoBits : Prop :=
  ∀ (c : Config) (p : Nat → Nat → Byte), c.Admitted →
    (pack4 c p).length = ceilDiv c.w 4 * c.h ∧
    ∀ py g m, py < c.h → g < c.w / 4 → m ≤ 3 →
      ((pack4 c p).getD (py * (c.w / 4) + g) 0).extractLsb' (6 - 2 * m) 2 = (p (4 * g + m) py).extractLsb' 6 2

/-- 42_pixel_encoder R154, R155: both planes have half the length; bit `7 - k` of byte `i` of BW is bit 0, and of RED
bit 1, of the code of sample `k mod 4` of packed byte `2i + k/4`. -/
def Obligations.DeriveSplitsTheCodes : Prop :=
  ∀ pk : List Byte, pk.length % 2 = 0 →
    (deriveBw pk).length = pk.length / 2 ∧ (deriveRed pk).length = pk.length / 2 ∧
    ∀ i k, i < pk.length / 2 → k ≤ 7 →
      ((deriveBw pk).getD i 0).getLsbD (7 - k) = (pk.getD (2 * i + k / 4) 0).getLsbD (6 - 2 * (k % 4)) ∧
      ((deriveRed pk).getD i 0).getLsbD (7 - k) = (pk.getD (2 * i + k / 4) 0).getLsbD (6 - 2 * (k % 4) + 1)

/-- 42_pixel_encoder R155: the codes of the four levels, the two truth tables on them (BW is bit 0 of the code, RED bit
1), and the sample values that give each level. -/
def Obligations.TruthTablesOfTheFourLevels : Prop :=
  (levelOfCode 0b11 = .white ∧ bwBit .white = true ∧ redBit .white = true) ∧
  (levelOfCode 0b10 = .gray1 ∧ bwBit .gray1 = false ∧ redBit .gray1 = true) ∧
  (levelOfCode 0b01 = .gray2 ∧ bwBit .gray2 = true ∧ redBit .gray2 = false) ∧
  (levelOfCode 0b00 = .black ∧ bwBit .black = false ∧ redBit .black = false) ∧
  (∀ code : BitVec 2, bwBit (levelOfCode code) = code.getLsbD 0 ∧ redBit (levelOfCode code) = code.getLsbD 1) ∧
  (∀ v : Byte,
    (levelOfCode (v.extractLsb' 6 2) = .white ↔ 0xC0 ≤ v.toNat) ∧
    (levelOfCode (v.extractLsb' 6 2) = .gray1 ↔ 0x80 ≤ v.toNat ∧ v.toNat ≤ 0xBF) ∧
    (levelOfCode (v.extractLsb' 6 2) = .gray2 ↔ 0x40 ≤ v.toNat ∧ v.toNat ≤ 0x7F) ∧
    (levelOfCode (v.extractLsb' 6 2) = .black ↔ v.toNat ≤ 0x3F))

/-- 95_test_vectors S3, T54 to T56: encoding a uniform grid and deriving gives uniform planes, BW by bit 6 and RED by bit
7 of the sample. -/
def Obligations.UniformGridGivesUniformPlanes : Prop :=
  ∀ (c : Config) (v : Byte), c.Admitted →
    deriveBw (pack4 c (fun _ _ => v)) = List.replicate c.planeLen (if v.getLsbD 6 then 0xFF else 0x00) ∧
    deriveRed (pack4 c (fun _ _ => v)) = List.replicate c.planeLen (if v.getLsbD 7 then 0xFF else 0x00)

/-- 42_pixel_encoder R160: a transposed grid encodes to the same buffer as the equivalent rotated grid encoded directly,
in both modes. -/
def Obligations.RotationLaw : Prop :=
  ∀ s s' : State, s.cfg.Admitted → s'.cfg = s.cfg → s.cfg.w ≠ s.cfg.h → s.seq = .idle → s'.seq = .idle →
    s.imgWSet = true → s.imgHSet = true → s'.imgWSet = true → s'.imgHSet = true →
    s.imgW.toNat = s.cfg.h → s.imgH.toNat = s.cfg.w → s'.imgW.toNat = s.cfg.w → s'.imgH.toNat = s.cfg.h →
    (∀ x y, x < s.cfg.h → y < s.cfg.w → (s.img.read (imgAddr x y)).isSome = true) →
    (∀ px py, px < s.cfg.w → py < s.cfg.h →
      s'.img.read (imgAddr px py) = s.img.read (imgAddr (s.cfg.h - 1 - py) px)) →
    ∀ i, i = .encode1B ∨ i = .encode4L →
      ∃ t t' u u', exec i s = .next t ∧ exec i s' = .next t' ∧ endsQuietly t u ∧ endsQuietly t' u' ∧
        u.seq = .idle ∧ u'.seq = .idle ∧ u.fbValid = true ∧ u'.fbValid = true ∧
        u'.fb = u.fb ∧ u'.fbLen = u.fbLen ∧ u'.fbMode = u.fbMode

/-- 42_pixel_encoder R150: what an ENCODE writes depends on nothing but the grid, its dimensions and the geometry. -/
def Obligations.EncodeDependsOnTheGridAlone : Prop :=
  ∀ s s' : State, s'.cfg.w = s.cfg.w → s'.cfg.h = s.cfg.h → s'.img = s.img → s'.imgW = s.imgW → s'.imgH = s.imgH →
    s'.imgWSet = s.imgWSet → s'.imgHSet = s.imgHSet → s.seq = .idle → s'.seq = .idle →
    ∀ i t, i = .encode1B ∨ i = .encode4L → exec i s = .next t → busyOp t = true →
      ∃ t' u u', exec i s' = .next t' ∧ endsQuietly t u ∧ endsQuietly t' u' ∧ u.seq = .idle ∧ u'.seq = .idle ∧
        u'.fb = u.fb ∧ u'.fbLen = u.fbLen ∧ u'.fbMode = u.fbMode ∧ u'.fbValid = u.fbValid

/-! ## Errors -/

/-- 60_exceptions R171: a malformed mode on DISPLAY_FRAME, CLEAR or ENCODE raises InvalidMode whatever the state, and
changes nothing but ERR. -/
def Obligations.MalformedModeRaisesInvalidMode : Prop :=
  (∀ w : Byte, w.getLsbD 7 = false → w.getLsbD 5 = true →
    (w.extractLsb' 0 4 = 0x3 → decodeWord w = .displayFrameBadMode) ∧
    (w.extractLsb' 0 4 = 0x4 → decodeWord w = .clearBadMode) ∧
    (w.extractLsb' 0 4 = 0x8 → decodeWord w = .encodeBadMode)) ∧
  (∀ s : State, s.seq = .idle → ∀ i, i = .displayFrameBadMode ∨ i = .clearBadMode ∨ i = .encodeBadMode →
    exec i s = .next { s with err := .invalidMode, done := true })

/-- 60_exceptions R176: a reserved word raises InvalidCommand whatever the state, and changes nothing but ERR. -/
def Obligations.ReservedWordRaisesInvalidCommand : Prop :=
  (∀ (w : Byte) (s : State), s.seq = .idle →
    (w.getLsbD 7 = true ∨ w.extractLsb' 0 4 = 0x0 ∨ w.extractLsb' 0 4 = 0x7 ∨ 0xA ≤ (w.extractLsb' 0 4).toNat) →
    exec (decodeWord w) s = .next { s with err := .invalidCommand, done := true }) ∧
  (∀ s : State, s.seq = .idle → ∀ i, i ∈ [Instr.reservedRsv, .reservedOpc0, .reservedOpc7, .reservedOpcA,
      .reservedOpcB, .reservedOpcC, .reservedOpcD, .reservedOpcE, .reservedOpcF] →
    exec i s = .next { s with err := .invalidCommand, done := true })

/-- 60_exceptions R173: DISPLAY_FRAME and CLEAR raise NotReady while Sleeping, attached or not, with no wire event and
no other change; awake they do not raise it. -/
def Obligations.SleepingRaisesNotReady : Prop :=
  ∀ (s : State) (i : Instr), s.seq = .idle →
    i = .displayFrame1B ∨ i = .displayFrame4L ∨ i = .clear1B ∨ i = .clear4L →
    (s.dstate = .sleeping → exec i s = .next { s with err := .notReady, done := true }) ∧
    (s.dstate ≠ .sleeping → ∀ t, exec i s = .next t → t.err = s.err ∨ t.err = .busFailure)

/-- 60_exceptions R172: a grid of neither orientation raises DimensionMismatch in both ENCODEs, which changes nothing but
ERR; no other instruction raises it. It is raised also where no element of the grid was written: R172 raises it before
any element is read, and U10, read to the letter, would refuse there (DEDUCED, log 9). -/
def Obligations.WrongGridRaisesDimensionMismatch : Prop :=
  (∀ s : State, s.seq = .idle → s.imgWSet = true → s.imgHSet = true →
    ¬(s.imgW.toNat = s.cfg.w ∧ s.imgH.toNat = s.cfg.h) → ¬(s.imgW.toNat = s.cfg.h ∧ s.imgH.toNat = s.cfg.w) →
    exec .encode1B s = .next { s with err := .dimensionMismatch, done := true } ∧
    exec .encode4L s = .next { s with err := .dimensionMismatch, done := true }) ∧
  (∀ (s t : State) (i : Instr), i ≠ .encode1B → i ≠ .encode4L → exec i s = .next t →
    t.err = .dimensionMismatch → s.err = .dimensionMismatch)

/-- 60_exceptions R174 (a), 41_protocol_driver R130 step 4: unattached, an operation that performs wire events and has
passed its other checks raises BusFailure and changes nothing but ERR. -/
def Obligations.UnattachedRaisesBusFailure : Prop :=
  ∀ (s : State) (i : Instr), s.seq = .idle → s.attached = false →
    (i = .reset ∨ (∃ fast, i = .init fast) ∨ i = .sleep ∨ i = .waitIdle ∨
      (s.dstate ≠ .sleeping ∧ (i = .clear1B ∨ i = .clear4L)) ∨
      (s.dstate ≠ .sleeping ∧ s.fbValid = true ∧ s.fbMode = .oneBit ∧ i = .displayFrame1B) ∨
      (s.dstate ≠ .sleeping ∧ s.fbValid = true ∧ s.fbMode = .fourLevel ∧ i = .displayFrame4L)) →
    exec i s = .next { s with err := .busFailure, done := true }

/-- 60_exceptions R174 (b), 10_state R28: when the capability fails a pin or bus event or a busy sample, the event is not
recorded, the operation ends with BusFailure, and PANEL_UNDEF is set if the operation had performed an event. A delay
cannot fail (40_wire_framing R95). Over whole runs (41_protocol_driver R130, R132, 10_state R12, R22, 60_exceptions R175,
95_test_vectors T42): an operation that fails at any event leaves what it performed and none of its completion writes.
INIT has latched its argument and leaves DSTATE; SLEEP and ATTACH leave DSTATE and ATTACHED; a display or clear leaves
REFRESH_CNT and the frame's tag, and DSTATE but for a nested INIT that had completed; DISPLAY_FRAME.4L has written the
planes exactly where it had come past the nested INIT. That ATTACH sets PANEL_UNDEF as well is log 19; that a failed bulk
write leaves no event is log 23. -/
def Obligations.FailingEventEndsTheOperation : Prop :=
  (∀ (s t u : State) (i : Instr) (choices : List (Level × Bool)), s.seq = .idle → exec i s = .next t →
    busyOp t = true →
    Host.Core.run Sys2Proof.core choices.length { t with inputs := turnsOf choices } = .next u →
    u.seq = .idle → u.err = .busFailure →
    s.trace <+: u.trace ∧
    (i = .reset ∨ i = .sleep ∨ i = .waitIdle ∨ i = .attach → u = afterFailure s u) ∧
    (∀ fast, i = .init fast → u = { afterFailure s u with prefFast := fast } ∧
      byteTrace u.trace <+: byteTrace s.trace ++ initBytes s.cfg fast) ∧
    (i = .displayFrame1B ∨ i = .clear1B ∨ i = .clear4L →
      u = { afterFailure s u with dstate := u.dstate } ∧ nestedInitOutcome s u) ∧
    (i = .displayFrame4L →
      u = { afterFailure s u with dstate := u.dstate, plBw := u.plBw, plRed := u.plRed, plLen := u.plLen } ∧
      nestedInitOutcome s u ∧
      (u.dstate = .uninitialized → u.plBw = s.plBw ∧ u.plRed = s.plRed ∧ u.plLen = s.plLen) ∧
      (u.dstate = .ready → u.plBw = Memory.ofBytes (deriveBw (frameBytes s)) ∧
        u.plRed = Memory.ofBytes (deriveRed (frameBytes s)) ∧ u.plLen = s.fbLen / 2))) ∧
  ∀ (s : State) (l : Level) (rest : List Input) (op : Instr) (idx : Nat) (touched : Bool) (more : List Micro),
    s.inputs = .tick l true :: rest →
    (∀ e : WireEvent, (∀ ms, e ≠ .delay ms) → s.seq = .busy op idx touched (.emit e :: more) →
      step s = .next { s with
        inputs := rest, seq := .idle, err := .busFailure, done := true, panelUndef := s.panelUndef || touched }) ∧
    (s.seq = .busy op idx touched (.poll :: more) →
      step s = .next { s with
        inputs := rest, seq := .idle, err := .busFailure, done := true, panelUndef := s.panelUndef || touched }) ∧
    (∀ ms : Nat, s.seq = .busy op idx touched (.emit (.delay ms) :: more) →
      step s = .next { s with
        inputs := rest, seq := .busy op (idx + 1) true more, trace := s.trace ++ [.delay ms], done := false })

/-- 93_implementation_defined U4, U5 (log 12): where the frame's tag does not fit, DISPLAY_FRAME (awake) and
DERIVE_PLANES have no step. -/
def Obligations.WrongFrameTagStops : Prop :=
  ∀ s : State, s.seq = .idle →
    (s.dstate ≠ .sleeping → ¬(s.fbValid = true ∧ s.fbMode = .oneBit) →
      exec .displayFrame1B s = .refused .frameTagMismatch) ∧
    (s.dstate ≠ .sleeping → ¬(s.fbValid = true ∧ s.fbMode = .fourLevel) →
      exec .displayFrame4L s = .refused .frameTagMismatch) ∧
    (¬(s.fbValid = true ∧ s.fbMode = .fourLevel) → exec .derivePlanes s = .refused .frameTagMismatch)

/-- 10_state R21, 93_implementation_defined U10 (log 9): an ENCODE before the host has written both dimensions, or, where
they fit the panel, before it has written every element of the grid, has no step. -/
def Obligations.EncodeBeforeDimensionsStops : Prop :=
  ∀ s : State, s.seq = .idle →
    (¬(s.imgWSet = true ∧ s.imgHSet = true) →
      exec .encode1B s = .refused .gridUnwritten ∧ exec .encode4L s = .refused .gridUnwritten) ∧
    (s.imgW.toNat = s.cfg.w → s.imgH.toNat = s.cfg.h →
      (∃ px py, px < s.cfg.w ∧ py < s.cfg.h ∧ s.img.read (imgAddr px py) = none) →
      exec .encode1B s = .refused .gridUnwritten ∧ exec .encode4L s = .refused .gridUnwritten) ∧
    (s.imgW.toNat = s.cfg.h → s.imgH.toNat = s.cfg.w → s.cfg.w ≠ s.cfg.h →
      (∃ x y, x < s.cfg.h ∧ y < s.cfg.w ∧ s.img.read (imgAddr x y) = none) →
      exec .encode1B s = .refused .gridUnwritten ∧ exec .encode4L s = .refused .gridUnwritten)

/-! ## Whole operations, whatever the panel answers -/

/-- 41_protocol_driver R132, R142, 95_test_vectors S4: whatever the busy samples, an INIT that ends without a failing
event has added exactly `I(fast)` to the byte trace: it depends on nothing but the argument and the configuration. -/
def Obligations.InitByteTraceIgnoresThePanel : Prop :=
  ∀ (s t u : State) (fast : Bool) (levels : List Level), s.seq = .idle → exec (.init fast) s = .next t →
    busyOp t = true →
    Host.Core.run Sys2Proof.core levels.length { t with inputs := unfailingTurns levels } = .next u →
    u.seq = .idle →
    byteTrace u.trace = byteTrace s.trace ++ initBytes s.cfg fast ∧ u.dstate = .ready ∧ u.err = .none ∧
      u.prefFast = fast

/-- 41_protocol_driver R142: the byte traces of the displays and clears, whatever the busy samples. -/
def Obligations.ShowByteTracesIgnoreThePanel : Prop :=
  ∀ (s t u : State) (i : Instr) (levels : List Level), s.seq = .idle → exec i s = .next t → busyOp t = true →
    Host.Core.run Sys2Proof.core levels.length { t with inputs := unfailingTurns levels } = .next u →
    u.seq = .idle →
    (i = .displayFrame1B →
      byteTrace u.trace = byteTrace s.trace ++ nestedInitBytes s ++ oneBitBytes s (frameBytes s)) ∧
    (i = .displayFrame4L →
      byteTrace u.trace = byteTrace s.trace ++ nestedInitBytes s ++
        fourLevelBytes s (deriveBw (frameBytes s)) (deriveRed (frameBytes s))) ∧
    (i = .clear1B →
      byteTrace u.trace = byteTrace s.trace ++ nestedInitBytes s ++
        oneBitBytes s (List.replicate s.cfg.planeLen 0xFF)) ∧
    (i = .clear4L →
      byteTrace u.trace = byteTrace s.trace ++ nestedInitBytes s ++
        fourLevelBytes s (List.replicate s.cfg.planeLen 0xFF) (List.replicate s.cfg.planeLen 0xFF))

/-- 20_memory R47: after a DISPLAY_FRAME that ends without a failing event, whatever the busy samples, the RAM images of
the trace are the frame (OneBit) or the two derived planes (FourLevel), which PL_BW and PL_RED hold too. The frame is
`FB[0 .. FB_LEN-1]` (10_state R22): it has FB_LEN bytes, each the byte FB holds there. -/
def Obligations.DisplayedPlanesHoldTheFrame : Prop :=
  (∀ s : State, (frameBytes s).length = s.fbLen.toNat ∧
    ∀ i b, i < s.fbLen.toNat → s.fb.read i = some b → (frameBytes s)[i]? = some b) ∧
  ∀ (s t u : State) (i : Instr) (levels : List Level), s.cfg.Admitted → s.seq = .idle → exec i s = .next t →
    busyOp t = true →
    Host.Core.run Sys2Proof.core levels.length { t with inputs := unfailingTurns levels } = .next u →
    u.seq = .idle →
    (i = .displayFrame1B → ramImage s.cfg.op.writeRamBw u.trace = some (frameBytes s)) ∧
    (i = .displayFrame4L →
      ramImage s.cfg.op.writeRamBw u.trace = some (deriveBw (frameBytes s)) ∧
      ramImage s.cfg.op.writeRamRed u.trace = some (deriveRed (frameBytes s)) ∧
      u.plBw = Memory.ofBytes (deriveBw (frameBytes s)) ∧ u.plRed = Memory.ofBytes (deriveRed (frameBytes s)))

/-- 30_encoding R76, 20_memory R47: the pseudo-operation `DISPLAY.m`, presented by the host on an awake, attached block
with a written grid and followed by enough quiet turns, ends the run (70_reset_and_hazards R198) without error, and the
RAM images of the trace are the packed panel grid (OneBit) or the two planes derived from it (FourLevel). -/
def Obligations.DisplayPseudoOperationShowsTheGrid : Prop :=
  ∀ (s : State) (o : Orientation), s.cfg.Admitted → s.seq = .idle → s.dstate ≠ .sleeping → s.attached = true →
    s.imgWSet = true → s.imgHSet = true → orientation s.cfg s.imgW.toNat s.imgH.toNat = some o →
    gridWritten s o = true →
    (∃ n u, runsTo s (hostProgram s.cfg n (pseudoDisplay .oneBit)) u ∧ u.err = .none ∧
      (∀ rest, runEnded { s with inputs := hostProgram s.cfg n (pseudoDisplay .oneBit) ++ rest } = false) ∧
      runEnded { u with inputs := [] } = true ∧ u.dstate = .ready ∧ u.fbValid = false ∧
      ramImage s.cfg.op.writeRamBw u.trace = some (pack1 s.cfg (panelGrid s o))) ∧
    (∃ n u, runsTo s (hostProgram s.cfg n (pseudoDisplay .fourLevel)) u ∧ u.err = .none ∧
      (∀ rest, runEnded { s with inputs := hostProgram s.cfg n (pseudoDisplay .fourLevel) ++ rest } = false) ∧
      runEnded { u with inputs := [] } = true ∧ u.dstate = .ready ∧ u.fbValid = false ∧
      ramImage s.cfg.op.writeRamBw u.trace = some (deriveBw (pack4 s.cfg (panelGrid s o))) ∧
      ramImage s.cfg.op.writeRamRed u.trace = some (deriveRed (pack4 s.cfg (panelGrid s o))))

/-! ## Invariants and whole-machine rules -/

/-- The invariant `Safety.Inv` is kept by every step, from every state that meets it. -/
def Obligations.EveryStepKeepsTheInvariant : Prop :=
  ∀ s t : State, Inv s → step s = .next t → Inv t

/-- The invariant holds right after reset. -/
def Obligations.ResetMeetsTheInvariant : Prop := Inv State.reset

/-- In a state that meets the invariant the sequencer's own turn always has a next state: only the host's accesses and
commands can stop the machine. -/
def Obligations.SequencerNeverStops : Prop :=
  ∀ s : State, Inv s → (s.inputs = [] ∨ (∃ l f, s.inputs.head? = some (.tick l f)) ∨ s.inputs.head? = some .attach ∨
      s.inputs.head? = some .blockReset ∨ ∃ x y v, s.inputs.head? = some (.imgWrite x y v)) →
    ∃ t, step s = .next t

/-- 60_exceptions R182, 10_state R12: block reset apart, DSTATE changes only by the write `DSTATE <- Ready` of an operation
that initialises, which is INIT where the block was Sleeping and the last thing INIT does, and by the write
`DSTATE <- Sleeping`, the last thing SLEEP does. -/
def Obligations.DriverStateTransitions : Prop :=
  ∀ s t : State, Inv s → step s = .next t → t.dstate ≠ s.dstate → s.inputs.head? ≠ some .blockReset →
    (t.dstate = .ready ∧ ∃ op idx touched more, s.seq = .busy op idx touched (.write .ready :: more) ∧
      mayInitialise op = true ∧ (s.dstate = .sleeping → ∃ fast, op = .init fast) ∧
      ((∃ fast, op = .init fast) → more = [])) ∨
    (t.dstate = .sleeping ∧ ∃ idx touched, s.seq = .busy .sleep idx touched [.write .sleeping])

/-- 10_state R15, R16: PREF_FAST changes only in a host-issued INIT and to its argument; ATTACHED rises only in ATTACH
and falls only in SLEEP; block reset apart. -/
def Obligations.PreferenceAndAttachmentWriters : Prop :=
  ∀ s t : State, Inv s → step s = .next t → s.inputs.head? ≠ some .blockReset →
    (t.prefFast ≠ s.prefFast → ∃ idx touched more, s.seq = .busy (.init t.prefFast) idx touched more) ∧
    (s.attached = false → t.attached = true → ∃ idx touched more, s.seq = .busy .attach idx touched more) ∧
    (s.attached = true → t.attached = false → ∃ idx touched more, s.seq = .busy .sleep idx touched more)

/-- 10_state R28: the ghost PANEL_UNDEF rises only where an operation that has performed an event ends with BusFailure,
and falls only where a reset pulse completes or at block reset. -/
def Obligations.PanelUndefWriters : Prop :=
  ∀ s t : State, step s = .next t →
    (s.panelUndef = false → t.panelUndef = true →
      t.err = .busFailure ∧ t.seq = .idle ∧ ∃ op idx more, s.seq = .busy op idx true more) ∧
    (s.panelUndef = true → t.panelUndef = false →
      s.inputs.head? = some .blockReset ∨
      ∃ op idx touched more, s.seq = .busy op idx touched (.write .panelKnown :: more))

/-- 00_scope R8, R9, 10_state R20, R28, 20_memory R50: a step appends at most one event to the wire trace, and only the
sequencer's turn appends one. A started operation has performed nothing (count 0, `touched` false); a step within it that
appends an event sets `touched` and counts it; any other leaves `touched` and counts at most one state write. -/
def Obligations.OneEventPerStep : Prop :=
  ∀ s t : State, step s = .next t → s.inputs.head? ≠ some .blockReset →
    (t.trace = s.trace ∨
    (∃ e, t.trace = s.trace ++ [e] ∧ busyOp s = true ∧
      (s.inputs = [] ∨ ∃ l f, s.inputs.head? = some (.tick l f)))) ∧
    ∀ op idx' touched' more', t.seq = .busy op idx' touched' more' →
      (s.seq = .idle ∧ idx' = 0 ∧ touched' = false ∧ t.trace = s.trace) ∨
      ∃ idx touched more, s.seq = .busy op idx touched more ∧
        ((t.trace = s.trace ∧ touched' = touched ∧ (idx' = idx ∨ idx' = idx + 1)) ∨
          ∃ e, t.trace = s.trace ++ [e] ∧ touched' = true ∧ idx' = idx + 1)

/-- 10_state R24, 42_pixel_encoder R150: no operation writes IMG, IMG_W or IMG_H, its presentation by a write to CMD
included: only the host's writes to 0x14, 0x18 and the grid port, and block reset, do. -/
def Obligations.OnlyTheHostWritesTheGrid : Prop :=
  ∀ s t : State, step s = .next t → s.inputs.head? ≠ some .blockReset →
    (∀ d, s.inputs.head? ≠ some (.hostWrite 0x14 d)) → (∀ d, s.inputs.head? ≠ some (.hostWrite 0x18 d)) →
    (∀ x y v, s.inputs.head? ≠ some (.imgWrite x y v)) →
    t.img = s.img ∧ t.imgW = s.imgW ∧ t.imgH = s.imgH ∧ t.imgWSet = s.imgWSet ∧ t.imgHSet = s.imgHSet

/-- 10_state R13, R14: no step gives REFRESH_CNT any value but 0 or the one it had, and PARTIAL_REFRESH_LIMIT changes
only by the host's write to its address or at block reset. The configuration never changes (log 1). -/
def Obligations.RefreshRegistersAndConfiguration : Prop :=
  ∀ s t : State, step s = .next t →
    (t.refreshCnt = s.refreshCnt ∨ t.refreshCnt = 0) ∧ t.cfg = s.cfg ∧
    (t.partialRefreshLimit = s.partialRefreshLimit ∨ s.inputs.head? = some .blockReset ∨
      ∃ d, s.inputs.head? = some (.hostWrite 0x10 d))

/-! ## Host ports and reset -/

/-- 30_encoding R65, 10_state R27: while an operation runs, a write on the register port or the `IMG` port, a command
word among them, is ignored. -/
def Obligations.BusyIgnoresHostWrites : Prop :=
  ∀ (s : State) (rest : List Input), s.seq ≠ .idle →
    (∀ a d, (regAt a).isSome = true → s.inputs = .hostWrite a d :: rest →
      step s = .next { s with inputs := rest, done := false }) ∧
    (∀ x y v, s.inputs = .imgWrite x y v :: rest → step s = .next { s with inputs := rest, done := false }) ∧
    (∀ i, isPanelCommand i = false → exec i s = .next s)

/-- 10_state R11, R27, R29, 60_exceptions R170: the STATUS register, bit by bit, with the numbers of DSTATE, and the code
of the error on the `err` port. -/
def Obligations.StatusBits : Prop :=
  ∀ s : State,
    (statusWord s).getLsbD 0 = busyOp s ∧ (statusWord s).getLsbD 1 = s.attached ∧
    (s.dstate = .uninitialized → (statusWord s).extractLsb' 2 2 = 0) ∧
    (s.dstate = .ready → (statusWord s).extractLsb' 2 2 = 1) ∧
    (s.dstate = .sleeping → (statusWord s).extractLsb' 2 2 = 2) ∧ (statusWord s).getLsbD 4 = s.fbValid ∧
    (statusWord s).getLsbD 5 = (s.fbMode == .fourLevel) ∧ (statusWord s).getLsbD 6 = s.prefFast ∧
    (statusWord s).extractLsb' 7 25 = 0 ∧
    (s.err = .none → errPort s = 0) ∧ (s.err = .invalidMode → errPort s = 1) ∧
    (s.err = .dimensionMismatch → errPort s = 2) ∧ (s.err = .notReady → errPort s = 3) ∧
    (s.err = .busFailure → errPort s = 4) ∧ (s.err = .invalidCommand → errPort s = 5)

/-- 10_state R27: a read of a register of the map, idle or of STATUS, answers its value, of ERR the number of its code
(60_exceptions R170), and changes nothing else. -/
def Obligations.HostReadsAnswerRegisters : Prop :=
  ∀ (s : State) (rest : List Input) (a : BitVec 6), s.inputs = .hostRead a :: rest →
    (a = 0x04 → step s = .next { s with inputs := rest, done := false, hRdata := statusWord s }) ∧
    (s.seq = .idle →
      (a = 0x00 → step s = .next { s with inputs := rest, done := false, hRdata := 0 }) ∧
      (a = 0x08 → ∀ n : BitVec 32,
        (s.err = .none ∧ n = 0) ∨ (s.err = .invalidMode ∧ n = 1) ∨ (s.err = .dimensionMismatch ∧ n = 2) ∨
          (s.err = .notReady ∧ n = 3) ∨ (s.err = .busFailure ∧ n = 4) ∨ (s.err = .invalidCommand ∧ n = 5) →
        step s = .next { s with inputs := rest, done := false, hRdata := n }) ∧
      (a = 0x0C → step s = .next { s with inputs := rest, done := false, hRdata := s.refreshCnt.setWidth 32 }) ∧
      (a = 0x10 →
        step s = .next { s with inputs := rest, done := false, hRdata := s.partialRefreshLimit.setWidth 32 }) ∧
      (a = 0x14 → step s = .next { s with inputs := rest, done := false, hRdata := s.imgW.setWidth 32 }) ∧
      (a = 0x18 → step s = .next { s with inputs := rest, done := false, hRdata := s.imgH.setWidth 32 }) ∧
      (a = 0x1C → step s = .next { s with inputs := rest, done := false, hRdata := s.fbLen }) ∧
      (a = 0x20 → step s = .next { s with inputs := rest, done := false, hRdata := s.plLen }) ∧
      (a = 0x24 →
        step s = .next { s with inputs := rest, done := false, hRdata := (BitVec.ofNat 16 s.cfg.w).setWidth 32 }) ∧
      (a = 0x28 →
        step s = .next { s with inputs := rest, done := false, hRdata := (BitVec.ofNat 16 s.cfg.h).setWidth 32 }))

/-- 10_state R27: a write while idle to `IMG_W`, `IMG_H` or `PARTIAL_REFRESH_LIMIT` stores the low 16 bits there, and
changes nothing else; the read-only registers ignore a write (log 17). -/
def Obligations.HostWritesSetTheirRegisters : Prop :=
  ∀ (s : State) (rest : List Input) (a : BitVec 6) (d : BitVec 32), s.inputs = .hostWrite a d :: rest →
    s.seq = .idle →
    (a = 0x10 → step s = .next { s with inputs := rest, done := false, partialRefreshLimit := d.setWidth 16 }) ∧
    (a = 0x14 → step s = .next { s with inputs := rest, done := false, imgW := d.setWidth 16, imgWSet := true }) ∧
    (a = 0x18 → step s = .next { s with inputs := rest, done := false, imgH := d.setWidth 16, imgHSet := true }) ∧
    (a = 0x04 ∨ a = 0x08 ∨ a = 0x0C ∨ a = 0x1C ∨ a = 0x20 ∨ a = 0x24 ∨ a = 0x28 →
      step s = .next { s with inputs := rest, done := false })

/-- The model's own choice (log 17): an access to a register address outside the map of 10_state R27, or to a memory
byte at or above the capacity of 20_memory R40, has no step. -/
def Obligations.AccessesOutsideTheMapFault : Prop :=
  ∀ (s : State) (rest : List Input),
    (∀ a : BitVec 6, (∀ k ≤ 10, a ≠ BitVec.ofNat 6 (4 * k)) →
      (s.inputs = .hostRead a :: rest → step s = .fault (.unmappedRegister a)) ∧
      ∀ d, s.inputs = .hostWrite a d :: rest → step s = .fault (.unmappedRegister a)) ∧
    (∀ j : BitVec 32,
      (s.inputs = .memRead .fb j :: rest → s.cfg.packedLen ≤ j.toNat → step s = .fault (.beyondCapacity .fb j)) ∧
      (s.inputs = .memRead .plBw j :: rest → s.cfg.planeLen ≤ j.toNat → step s = .fault (.beyondCapacity .plBw j)) ∧
      (s.inputs = .memRead .plRed j :: rest → s.cfg.planeLen ≤ j.toNat →
        step s = .fault (.beyondCapacity .plRed j)))

/-- 20_memory R40, R42: read while idle, a written byte below the memory's length is answered as it stands, on the read
data of that port, and nothing else changes. -/
def Obligations.MemoryPortsAnswerBytes : Prop :=
  ∀ (s : State) (rest : List Input) (j : BitVec 32), s.seq = .idle →
    (∀ b, s.inputs = .memRead .fb j :: rest → j.toNat < s.cfg.packedLen → j.toNat < s.fbLen.toNat →
      s.fb.read j.toNat = some b → step s = .next { s with inputs := rest, done := false, fbRdata := b }) ∧
    (∀ b, s.inputs = .memRead .plBw j :: rest → j.toNat < s.cfg.planeLen → j.toNat < s.plLen.toNat →
      s.plBw.read j.toNat = some b → step s = .next { s with inputs := rest, done := false, plBwRdata := b }) ∧
    (∀ b, s.inputs = .memRead .plRed j :: rest → j.toNat < s.cfg.planeLen → j.toNat < s.plLen.toNat →
      s.plRed.read j.toNat = some b → step s = .next { s with inputs := rest, done := false, plRedRdata := b })

/-- 10_state R21, R27, 20_memory R41: an element the host writes while idle is what its coordinates then read as, every
other element is unchanged, and nothing else changes. That every 16-bit coordinate can be written is the model's choice
(log 10). -/
def Obligations.GridWritesLandAtTheirCoordinates : Prop :=
  ∀ (s : State) (rest : List Input) (x y : BitVec 16) (v : Byte), s.seq = .idle →
    s.inputs = .imgWrite x y v :: rest →
    ∃ t, step s = .next t ∧ t = { s with inputs := rest, done := false, img := t.img } ∧
      t.img.read (imgAddr x.toNat y.toNat) = some v ∧
      ∀ x' y' : BitVec 16, (x' ≠ x ∨ y' ≠ y) →
        t.img.read (imgAddr x'.toNat y'.toNat) = s.img.read (imgAddr x'.toNat y'.toNat)

/-- 10_state R30, 70_reset_and_hazards R195: block reset, from every state, an operation in progress or not, gives every
register the value of the table, with no wire event. That the configuration and the pending inputs stay is the model's
choice (log 20). -/
def Obligations.BlockResetFromEveryState : Prop :=
  ∀ (s : State) (rest : List Input), s.inputs = .blockReset :: rest →
    ∃ t, step s = .next t ∧ t.dstate = .uninitialized ∧ t.refreshCnt = 0 ∧
      t.partialRefreshLimit = s.cfg.partialRefreshLimit ∧ t.prefFast = false ∧ t.attached = false ∧ t.err = .none ∧
      t.seq = .idle ∧ t.fbValid = false ∧ t.plLen = 0 ∧ t.rstO = none ∧ t.dcO = none ∧ t.csO = none ∧
      t.trace = [] ∧ t.panelUndef = false ∧ t.cfg = s.cfg ∧ t.inputs = rest

/-- 10_state R30: the values the spec gives for reset. -/
def Obligations.ResetValues : Prop :=
  State.reset.dstate = .uninitialized ∧ State.reset.refreshCnt = 0 ∧
  State.reset.partialRefreshLimit = State.reset.cfg.partialRefreshLimit ∧ State.reset.prefFast = false ∧
  State.reset.attached = false ∧ State.reset.err = .none ∧ State.reset.seq = .idle ∧ State.reset.fbValid = false ∧
  State.reset.plLen = 0 ∧ State.reset.rstO = none ∧ State.reset.dcO = none ∧ State.reset.csO = none ∧
  State.reset.trace = [] ∧ State.reset.panelUndef = false
end

