-- ==== Sys2Proof/Laws/State.lean ====
section
/-! SUPPORT. What every named update of State does to every field, one lemma each, so that no proof unfolds a record
update. -/

namespace Sys2Proof.Machine

/-! ### `raise` -/

@[simp] theorem raise_cfg (e : ErrorCode) (s : State) : (raise e s).cfg = s.cfg := rfl
@[simp] theorem raise_dstate (e : ErrorCode) (s : State) : (raise e s).dstate = s.dstate := rfl
@[simp] theorem raise_refreshCnt (e : ErrorCode) (s : State) : (raise e s).refreshCnt = s.refreshCnt := rfl
@[simp] theorem raise_partialRefreshLimit (e : ErrorCode) (s : State) : (raise e s).partialRefreshLimit = s.partialRefreshLimit := rfl
@[simp] theorem raise_prefFast (e : ErrorCode) (s : State) : (raise e s).prefFast = s.prefFast := rfl
@[simp] theorem raise_attached (e : ErrorCode) (s : State) : (raise e s).attached = s.attached := rfl
@[simp] theorem raise_err (e : ErrorCode) (s : State) : (raise e s).err = e := rfl
@[simp] theorem raise_seq (e : ErrorCode) (s : State) : (raise e s).seq = .idle := rfl
@[simp] theorem raise_imgW (e : ErrorCode) (s : State) : (raise e s).imgW = s.imgW := rfl
@[simp] theorem raise_imgH (e : ErrorCode) (s : State) : (raise e s).imgH = s.imgH := rfl
@[simp] theorem raise_fbLen (e : ErrorCode) (s : State) : (raise e s).fbLen = s.fbLen := rfl
@[simp] theorem raise_fbValid (e : ErrorCode) (s : State) : (raise e s).fbValid = s.fbValid := rfl
@[simp] theorem raise_fbMode (e : ErrorCode) (s : State) : (raise e s).fbMode = s.fbMode := rfl
@[simp] theorem raise_plLen (e : ErrorCode) (s : State) : (raise e s).plLen = s.plLen := rfl
@[simp] theorem raise_rstO (e : ErrorCode) (s : State) : (raise e s).rstO = s.rstO := rfl
@[simp] theorem raise_dcO (e : ErrorCode) (s : State) : (raise e s).dcO = s.dcO := rfl
@[simp] theorem raise_csO (e : ErrorCode) (s : State) : (raise e s).csO = s.csO := rfl
@[simp] theorem raise_img (e : ErrorCode) (s : State) : (raise e s).img = s.img := rfl
@[simp] theorem raise_fb (e : ErrorCode) (s : State) : (raise e s).fb = s.fb := rfl
@[simp] theorem raise_plBw (e : ErrorCode) (s : State) : (raise e s).plBw = s.plBw := rfl
@[simp] theorem raise_plRed (e : ErrorCode) (s : State) : (raise e s).plRed = s.plRed := rfl
@[simp] theorem raise_trace (e : ErrorCode) (s : State) : (raise e s).trace = s.trace := rfl
@[simp] theorem raise_panelUndef (e : ErrorCode) (s : State) : (raise e s).panelUndef = s.panelUndef := rfl
@[simp] theorem raise_done (e : ErrorCode) (s : State) : (raise e s).done = true := rfl
@[simp] theorem raise_hRdata (e : ErrorCode) (s : State) : (raise e s).hRdata = s.hRdata := rfl
@[simp] theorem raise_fbRdata (e : ErrorCode) (s : State) : (raise e s).fbRdata = s.fbRdata := rfl
@[simp] theorem raise_plBwRdata (e : ErrorCode) (s : State) : (raise e s).plBwRdata = s.plBwRdata := rfl
@[simp] theorem raise_plRedRdata (e : ErrorCode) (s : State) : (raise e s).plRedRdata = s.plRedRdata := rfl
@[simp] theorem raise_imgWSet (e : ErrorCode) (s : State) : (raise e s).imgWSet = s.imgWSet := rfl
@[simp] theorem raise_imgHSet (e : ErrorCode) (s : State) : (raise e s).imgHSet = s.imgHSet := rfl
@[simp] theorem raise_inputs (e : ErrorCode) (s : State) : (raise e s).inputs = s.inputs := rfl
@[simp] theorem raise_freeCount (e : ErrorCode) (s : State) : (raise e s).freeCount = s.freeCount := rfl

/-! ### `failEvent` -/

@[simp] theorem failEvent_cfg (t : Bool) (s : State) : (failEvent t s).cfg = s.cfg := rfl
@[simp] theorem failEvent_dstate (t : Bool) (s : State) : (failEvent t s).dstate = s.dstate := rfl
@[simp] theorem failEvent_refreshCnt (t : Bool) (s : State) : (failEvent t s).refreshCnt = s.refreshCnt := rfl
@[simp] theorem failEvent_partialRefreshLimit (t : Bool) (s : State) : (failEvent t s).partialRefreshLimit = s.partialRefreshLimit := rfl
@[simp] theorem failEvent_prefFast (t : Bool) (s : State) : (failEvent t s).prefFast = s.prefFast := rfl
@[simp] theorem failEvent_attached (t : Bool) (s : State) : (failEvent t s).attached = s.attached := rfl
@[simp] theorem failEvent_err (t : Bool) (s : State) : (failEvent t s).err = .busFailure := rfl
@[simp] theorem failEvent_seq (t : Bool) (s : State) : (failEvent t s).seq = .idle := rfl
@[simp] theorem failEvent_imgW (t : Bool) (s : State) : (failEvent t s).imgW = s.imgW := rfl
@[simp] theorem failEvent_imgH (t : Bool) (s : State) : (failEvent t s).imgH = s.imgH := rfl
@[simp] theorem failEvent_fbLen (t : Bool) (s : State) : (failEvent t s).fbLen = s.fbLen := rfl
@[simp] theorem failEvent_fbValid (t : Bool) (s : State) : (failEvent t s).fbValid = s.fbValid := rfl
@[simp] theorem failEvent_fbMode (t : Bool) (s : State) : (failEvent t s).fbMode = s.fbMode := rfl
@[simp] theorem failEvent_plLen (t : Bool) (s : State) : (failEvent t s).plLen = s.plLen := rfl
@[simp] theorem failEvent_rstO (t : Bool) (s : State) : (failEvent t s).rstO = s.rstO := rfl
@[simp] theorem failEvent_dcO (t : Bool) (s : State) : (failEvent t s).dcO = s.dcO := rfl
@[simp] theorem failEvent_csO (t : Bool) (s : State) : (failEvent t s).csO = s.csO := rfl
@[simp] theorem failEvent_img (t : Bool) (s : State) : (failEvent t s).img = s.img := rfl
@[simp] theorem failEvent_fb (t : Bool) (s : State) : (failEvent t s).fb = s.fb := rfl
@[simp] theorem failEvent_plBw (t : Bool) (s : State) : (failEvent t s).plBw = s.plBw := rfl
@[simp] theorem failEvent_plRed (t : Bool) (s : State) : (failEvent t s).plRed = s.plRed := rfl
@[simp] theorem failEvent_trace (t : Bool) (s : State) : (failEvent t s).trace = s.trace := rfl
@[simp] theorem failEvent_panelUndef (t : Bool) (s : State) : (failEvent t s).panelUndef = (s.panelUndef || t) := rfl
@[simp] theorem failEvent_done (t : Bool) (s : State) : (failEvent t s).done = true := rfl
@[simp] theorem failEvent_hRdata (t : Bool) (s : State) : (failEvent t s).hRdata = s.hRdata := rfl
@[simp] theorem failEvent_fbRdata (t : Bool) (s : State) : (failEvent t s).fbRdata = s.fbRdata := rfl
@[simp] theorem failEvent_plBwRdata (t : Bool) (s : State) : (failEvent t s).plBwRdata = s.plBwRdata := rfl
@[simp] theorem failEvent_plRedRdata (t : Bool) (s : State) : (failEvent t s).plRedRdata = s.plRedRdata := rfl
@[simp] theorem failEvent_imgWSet (t : Bool) (s : State) : (failEvent t s).imgWSet = s.imgWSet := rfl
@[simp] theorem failEvent_imgHSet (t : Bool) (s : State) : (failEvent t s).imgHSet = s.imgHSet := rfl
@[simp] theorem failEvent_inputs (t : Bool) (s : State) : (failEvent t s).inputs = s.inputs := rfl
@[simp] theorem failEvent_freeCount (t : Bool) (s : State) : (failEvent t s).freeCount = s.freeCount := rfl

/-! ### `complete` -/

@[simp] theorem complete_cfg (s : State) : (complete s).cfg = s.cfg := rfl
@[simp] theorem complete_dstate (s : State) : (complete s).dstate = s.dstate := rfl
@[simp] theorem complete_refreshCnt (s : State) : (complete s).refreshCnt = s.refreshCnt := rfl
@[simp] theorem complete_partialRefreshLimit (s : State) : (complete s).partialRefreshLimit = s.partialRefreshLimit := rfl
@[simp] theorem complete_prefFast (s : State) : (complete s).prefFast = s.prefFast := rfl
@[simp] theorem complete_attached (s : State) : (complete s).attached = s.attached := rfl
@[simp] theorem complete_err (s : State) : (complete s).err = .none := rfl
@[simp] theorem complete_seq (s : State) : (complete s).seq = .idle := rfl
@[simp] theorem complete_imgW (s : State) : (complete s).imgW = s.imgW := rfl
@[simp] theorem complete_imgH (s : State) : (complete s).imgH = s.imgH := rfl
@[simp] theorem complete_fbLen (s : State) : (complete s).fbLen = s.fbLen := rfl
@[simp] theorem complete_fbValid (s : State) : (complete s).fbValid = s.fbValid := rfl
@[simp] theorem complete_fbMode (s : State) : (complete s).fbMode = s.fbMode := rfl
@[simp] theorem complete_plLen (s : State) : (complete s).plLen = s.plLen := rfl
@[simp] theorem complete_rstO (s : State) : (complete s).rstO = s.rstO := rfl
@[simp] theorem complete_dcO (s : State) : (complete s).dcO = s.dcO := rfl
@[simp] theorem complete_csO (s : State) : (complete s).csO = s.csO := rfl
@[simp] theorem complete_img (s : State) : (complete s).img = s.img := rfl
@[simp] theorem complete_fb (s : State) : (complete s).fb = s.fb := rfl
@[simp] theorem complete_plBw (s : State) : (complete s).plBw = s.plBw := rfl
@[simp] theorem complete_plRed (s : State) : (complete s).plRed = s.plRed := rfl
@[simp] theorem complete_trace (s : State) : (complete s).trace = s.trace := rfl
@[simp] theorem complete_panelUndef (s : State) : (complete s).panelUndef = s.panelUndef := rfl
@[simp] theorem complete_done (s : State) : (complete s).done = true := rfl
@[simp] theorem complete_hRdata (s : State) : (complete s).hRdata = s.hRdata := rfl
@[simp] theorem complete_fbRdata (s : State) : (complete s).fbRdata = s.fbRdata := rfl
@[simp] theorem complete_plBwRdata (s : State) : (complete s).plBwRdata = s.plBwRdata := rfl
@[simp] theorem complete_plRedRdata (s : State) : (complete s).plRedRdata = s.plRedRdata := rfl
@[simp] theorem complete_imgWSet (s : State) : (complete s).imgWSet = s.imgWSet := rfl
@[simp] theorem complete_imgHSet (s : State) : (complete s).imgHSet = s.imgHSet := rfl
@[simp] theorem complete_inputs (s : State) : (complete s).inputs = s.inputs := rfl
@[simp] theorem complete_freeCount (s : State) : (complete s).freeCount = s.freeCount := rfl

/-! ### `record` -/

@[simp] theorem record_cfg (e : WireEvent) (s : State) : (record e s).cfg = s.cfg := rfl
@[simp] theorem record_dstate (e : WireEvent) (s : State) : (record e s).dstate = s.dstate := rfl
@[simp] theorem record_refreshCnt (e : WireEvent) (s : State) : (record e s).refreshCnt = s.refreshCnt := rfl
@[simp] theorem record_partialRefreshLimit (e : WireEvent) (s : State) : (record e s).partialRefreshLimit = s.partialRefreshLimit := rfl
@[simp] theorem record_prefFast (e : WireEvent) (s : State) : (record e s).prefFast = s.prefFast := rfl
@[simp] theorem record_attached (e : WireEvent) (s : State) : (record e s).attached = s.attached := rfl
@[simp] theorem record_err (e : WireEvent) (s : State) : (record e s).err = s.err := rfl
@[simp] theorem record_seq (e : WireEvent) (s : State) : (record e s).seq = s.seq := rfl
@[simp] theorem record_imgW (e : WireEvent) (s : State) : (record e s).imgW = s.imgW := rfl
@[simp] theorem record_imgH (e : WireEvent) (s : State) : (record e s).imgH = s.imgH := rfl
@[simp] theorem record_fbLen (e : WireEvent) (s : State) : (record e s).fbLen = s.fbLen := rfl
@[simp] theorem record_fbValid (e : WireEvent) (s : State) : (record e s).fbValid = s.fbValid := rfl
@[simp] theorem record_fbMode (e : WireEvent) (s : State) : (record e s).fbMode = s.fbMode := rfl
@[simp] theorem record_plLen (e : WireEvent) (s : State) : (record e s).plLen = s.plLen := rfl
@[simp] theorem record_rstO (e : WireEvent) (s : State) : (record e s).rstO = rstAfter s.rstO e := rfl
@[simp] theorem record_dcO (e : WireEvent) (s : State) : (record e s).dcO = dcAfter s.dcO e := rfl
@[simp] theorem record_csO (e : WireEvent) (s : State) : (record e s).csO = csAfter s.csO e := rfl
@[simp] theorem record_img (e : WireEvent) (s : State) : (record e s).img = s.img := rfl
@[simp] theorem record_fb (e : WireEvent) (s : State) : (record e s).fb = s.fb := rfl
@[simp] theorem record_plBw (e : WireEvent) (s : State) : (record e s).plBw = s.plBw := rfl
@[simp] theorem record_plRed (e : WireEvent) (s : State) : (record e s).plRed = s.plRed := rfl
@[simp] theorem record_trace (e : WireEvent) (s : State) : (record e s).trace = s.trace ++ [e] := rfl
@[simp] theorem record_panelUndef (e : WireEvent) (s : State) : (record e s).panelUndef = s.panelUndef := rfl
@[simp] theorem record_done (e : WireEvent) (s : State) : (record e s).done = s.done := rfl
@[simp] theorem record_hRdata (e : WireEvent) (s : State) : (record e s).hRdata = s.hRdata := rfl
@[simp] theorem record_fbRdata (e : WireEvent) (s : State) : (record e s).fbRdata = s.fbRdata := rfl
@[simp] theorem record_plBwRdata (e : WireEvent) (s : State) : (record e s).plBwRdata = s.plBwRdata := rfl
@[simp] theorem record_plRedRdata (e : WireEvent) (s : State) : (record e s).plRedRdata = s.plRedRdata := rfl
@[simp] theorem record_imgWSet (e : WireEvent) (s : State) : (record e s).imgWSet = s.imgWSet := rfl
@[simp] theorem record_imgHSet (e : WireEvent) (s : State) : (record e s).imgHSet = s.imgHSet := rfl
@[simp] theorem record_inputs (e : WireEvent) (s : State) : (record e s).inputs = s.inputs := rfl
@[simp] theorem record_freeCount (e : WireEvent) (s : State) : (record e s).freeCount = s.freeCount := rfl

/-! ### `blockReset` -/

@[simp] theorem blockReset_cfg (s : State) : (blockReset s).cfg = s.cfg := rfl
@[simp] theorem blockReset_dstate (s : State) : (blockReset s).dstate = (State.resetWith s.cfg).dstate := rfl
@[simp] theorem blockReset_refreshCnt (s : State) : (blockReset s).refreshCnt = (State.resetWith s.cfg).refreshCnt := rfl
@[simp] theorem blockReset_partialRefreshLimit (s : State) : (blockReset s).partialRefreshLimit = (State.resetWith s.cfg).partialRefreshLimit := rfl
@[simp] theorem blockReset_prefFast (s : State) : (blockReset s).prefFast = (State.resetWith s.cfg).prefFast := rfl
@[simp] theorem blockReset_attached (s : State) : (blockReset s).attached = (State.resetWith s.cfg).attached := rfl
@[simp] theorem blockReset_err (s : State) : (blockReset s).err = (State.resetWith s.cfg).err := rfl
@[simp] theorem blockReset_seq (s : State) : (blockReset s).seq = (State.resetWith s.cfg).seq := rfl
@[simp] theorem blockReset_imgW (s : State) : (blockReset s).imgW = (State.resetWith s.cfg).imgW := rfl
@[simp] theorem blockReset_imgH (s : State) : (blockReset s).imgH = (State.resetWith s.cfg).imgH := rfl
@[simp] theorem blockReset_fbLen (s : State) : (blockReset s).fbLen = (State.resetWith s.cfg).fbLen := rfl
@[simp] theorem blockReset_fbValid (s : State) : (blockReset s).fbValid = (State.resetWith s.cfg).fbValid := rfl
@[simp] theorem blockReset_fbMode (s : State) : (blockReset s).fbMode = (State.resetWith s.cfg).fbMode := rfl
@[simp] theorem blockReset_plLen (s : State) : (blockReset s).plLen = (State.resetWith s.cfg).plLen := rfl
@[simp] theorem blockReset_rstO (s : State) : (blockReset s).rstO = (State.resetWith s.cfg).rstO := rfl
@[simp] theorem blockReset_dcO (s : State) : (blockReset s).dcO = (State.resetWith s.cfg).dcO := rfl
@[simp] theorem blockReset_csO (s : State) : (blockReset s).csO = (State.resetWith s.cfg).csO := rfl
@[simp] theorem blockReset_img (s : State) : (blockReset s).img = (State.resetWith s.cfg).img := rfl
@[simp] theorem blockReset_fb (s : State) : (blockReset s).fb = (State.resetWith s.cfg).fb := rfl
@[simp] theorem blockReset_plBw (s : State) : (blockReset s).plBw = (State.resetWith s.cfg).plBw := rfl
@[simp] theorem blockReset_plRed (s : State) : (blockReset s).plRed = (State.resetWith s.cfg).plRed := rfl
@[simp] theorem blockReset_trace (s : State) : (blockReset s).trace = (State.resetWith s.cfg).trace := rfl
@[simp] theorem blockReset_panelUndef (s : State) : (blockReset s).panelUndef = (State.resetWith s.cfg).panelUndef := rfl
@[simp] theorem blockReset_done (s : State) : (blockReset s).done = (State.resetWith s.cfg).done := rfl
@[simp] theorem blockReset_hRdata (s : State) : (blockReset s).hRdata = (State.resetWith s.cfg).hRdata := rfl
@[simp] theorem blockReset_fbRdata (s : State) : (blockReset s).fbRdata = (State.resetWith s.cfg).fbRdata := rfl
@[simp] theorem blockReset_plBwRdata (s : State) : (blockReset s).plBwRdata = (State.resetWith s.cfg).plBwRdata := rfl
@[simp] theorem blockReset_plRedRdata (s : State) : (blockReset s).plRedRdata = (State.resetWith s.cfg).plRedRdata := rfl
@[simp] theorem blockReset_imgWSet (s : State) : (blockReset s).imgWSet = (State.resetWith s.cfg).imgWSet := rfl
@[simp] theorem blockReset_imgHSet (s : State) : (blockReset s).imgHSet = (State.resetWith s.cfg).imgHSet := rfl
@[simp] theorem blockReset_inputs (s : State) : (blockReset s).inputs = s.inputs := rfl
@[simp] theorem blockReset_freeCount (s : State) : (blockReset s).freeCount = s.freeCount := rfl

/-! ### `applyWrite`: the fields a write sets, and the fields no write touches -/

@[simp] theorem applyWrite_cfg (w : StateWrite) (s : State) : (applyWrite w s).cfg = s.cfg := by cases w <;> rfl
@[simp] theorem applyWrite_partialRefreshLimit (w : StateWrite) (s : State) : (applyWrite w s).partialRefreshLimit = s.partialRefreshLimit := by cases w <;> rfl
@[simp] theorem applyWrite_err (w : StateWrite) (s : State) : (applyWrite w s).err = s.err := by cases w <;> rfl
@[simp] theorem applyWrite_seq (w : StateWrite) (s : State) : (applyWrite w s).seq = s.seq := by cases w <;> rfl
@[simp] theorem applyWrite_imgW (w : StateWrite) (s : State) : (applyWrite w s).imgW = s.imgW := by cases w <;> rfl
@[simp] theorem applyWrite_imgH (w : StateWrite) (s : State) : (applyWrite w s).imgH = s.imgH := by cases w <;> rfl
@[simp] theorem applyWrite_img (w : StateWrite) (s : State) : (applyWrite w s).img = s.img := by cases w <;> rfl
@[simp] theorem applyWrite_trace (w : StateWrite) (s : State) : (applyWrite w s).trace = s.trace := by cases w <;> rfl
@[simp] theorem applyWrite_done (w : StateWrite) (s : State) : (applyWrite w s).done = s.done := by cases w <;> rfl
@[simp] theorem applyWrite_hRdata (w : StateWrite) (s : State) : (applyWrite w s).hRdata = s.hRdata := by cases w <;> rfl
@[simp] theorem applyWrite_fbRdata (w : StateWrite) (s : State) : (applyWrite w s).fbRdata = s.fbRdata := by cases w <;> rfl
@[simp] theorem applyWrite_plBwRdata (w : StateWrite) (s : State) : (applyWrite w s).plBwRdata = s.plBwRdata := by cases w <;> rfl
@[simp] theorem applyWrite_plRedRdata (w : StateWrite) (s : State) : (applyWrite w s).plRedRdata = s.plRedRdata := by cases w <;> rfl
@[simp] theorem applyWrite_imgWSet (w : StateWrite) (s : State) : (applyWrite w s).imgWSet = s.imgWSet := by cases w <;> rfl
@[simp] theorem applyWrite_imgHSet (w : StateWrite) (s : State) : (applyWrite w s).imgHSet = s.imgHSet := by cases w <;> rfl
@[simp] theorem applyWrite_inputs (w : StateWrite) (s : State) : (applyWrite w s).inputs = s.inputs := by cases w <;> rfl
@[simp] theorem applyWrite_freeCount (w : StateWrite) (s : State) : (applyWrite w s).freeCount = s.freeCount := by cases w <;> rfl
@[simp] theorem applyWrite_preferFast_dstate (f : Bool) (s : State) :
    (applyWrite (.preferFast f) s).dstate = s.dstate := rfl
@[simp] theorem applyWrite_preferFast_refreshCnt (f : Bool) (s : State) :
    (applyWrite (.preferFast f) s).refreshCnt = s.refreshCnt := rfl
@[simp] theorem applyWrite_preferFast_prefFast (f : Bool) (s : State) :
    (applyWrite (.preferFast f) s).prefFast = f := rfl
@[simp] theorem applyWrite_preferFast_attached (f : Bool) (s : State) :
    (applyWrite (.preferFast f) s).attached = s.attached := rfl
@[simp] theorem applyWrite_preferFast_fbLen (f : Bool) (s : State) :
    (applyWrite (.preferFast f) s).fbLen = s.fbLen := rfl
@[simp] theorem applyWrite_preferFast_fbValid (f : Bool) (s : State) :
    (applyWrite (.preferFast f) s).fbValid = s.fbValid := rfl
@[simp] theorem applyWrite_preferFast_fbMode (f : Bool) (s : State) :
    (applyWrite (.preferFast f) s).fbMode = s.fbMode := rfl
@[simp] theorem applyWrite_preferFast_plLen (f : Bool) (s : State) :
    (applyWrite (.preferFast f) s).plLen = s.plLen := rfl
@[simp] theorem applyWrite_preferFast_rstO (f : Bool) (s : State) :
    (applyWrite (.preferFast f) s).rstO = s.rstO := rfl
@[simp] theorem applyWrite_preferFast_dcO (f : Bool) (s : State) :
    (applyWrite (.preferFast f) s).dcO = s.dcO := rfl
@[simp] theorem applyWrite_preferFast_csO (f : Bool) (s : State) :
    (applyWrite (.preferFast f) s).csO = s.csO := rfl
@[simp] theorem applyWrite_preferFast_fb (f : Bool) (s : State) :
    (applyWrite (.preferFast f) s).fb = s.fb := rfl
@[simp] theorem applyWrite_preferFast_plBw (f : Bool) (s : State) :
    (applyWrite (.preferFast f) s).plBw = s.plBw := rfl
@[simp] theorem applyWrite_preferFast_plRed (f : Bool) (s : State) :
    (applyWrite (.preferFast f) s).plRed = s.plRed := rfl
@[simp] theorem applyWrite_preferFast_panelUndef (f : Bool) (s : State) :
    (applyWrite (.preferFast f) s).panelUndef = s.panelUndef := rfl
@[simp] theorem applyWrite_panelKnown_dstate (s : State) :
    (applyWrite (.panelKnown) s).dstate = s.dstate := rfl
@[simp] theorem applyWrite_panelKnown_refreshCnt (s : State) :
    (applyWrite (.panelKnown) s).refreshCnt = s.refreshCnt := rfl
@[simp] theorem applyWrite_panelKnown_prefFast (s : State) :
    (applyWrite (.panelKnown) s).prefFast = s.prefFast := rfl
@[simp] theorem applyWrite_panelKnown_attached (s : State) :
    (applyWrite (.panelKnown) s).attached = s.attached := rfl
@[simp] theorem applyWrite_panelKnown_fbLen (s : State) :
    (applyWrite (.panelKnown) s).fbLen = s.fbLen := rfl
@[simp] theorem applyWrite_panelKnown_fbValid (s : State) :
    (applyWrite (.panelKnown) s).fbValid = s.fbValid := rfl
@[simp] theorem applyWrite_panelKnown_fbMode (s : State) :
    (applyWrite (.panelKnown) s).fbMode = s.fbMode := rfl
@[simp] theorem applyWrite_panelKnown_plLen (s : State) :
    (applyWrite (.panelKnown) s).plLen = s.plLen := rfl
@[simp] theorem applyWrite_panelKnown_rstO (s : State) :
    (applyWrite (.panelKnown) s).rstO = s.rstO := rfl
@[simp] theorem applyWrite_panelKnown_dcO (s : State) :
    (applyWrite (.panelKnown) s).dcO = s.dcO := rfl
@[simp] theorem applyWrite_panelKnown_csO (s : State) :
    (applyWrite (.panelKnown) s).csO = s.csO := rfl
@[simp] theorem applyWrite_panelKnown_fb (s : State) :
    (applyWrite (.panelKnown) s).fb = s.fb := rfl
@[simp] theorem applyWrite_panelKnown_plBw (s : State) :
    (applyWrite (.panelKnown) s).plBw = s.plBw := rfl
@[simp] theorem applyWrite_panelKnown_plRed (s : State) :
    (applyWrite (.panelKnown) s).plRed = s.plRed := rfl
@[simp] theorem applyWrite_panelKnown_panelUndef (s : State) :
    (applyWrite (.panelKnown) s).panelUndef = false := rfl
@[simp] theorem applyWrite_ready_dstate (s : State) :
    (applyWrite (.ready) s).dstate = .ready := rfl
@[simp] theorem applyWrite_ready_refreshCnt (s : State) :
    (applyWrite (.ready) s).refreshCnt = s.refreshCnt := rfl
@[simp] theorem applyWrite_ready_prefFast (s : State) :
    (applyWrite (.ready) s).prefFast = s.prefFast := rfl
@[simp] theorem applyWrite_ready_attached (s : State) :
    (applyWrite (.ready) s).attached = s.attached := rfl
@[simp] theorem applyWrite_ready_fbLen (s : State) :
    (applyWrite (.ready) s).fbLen = s.fbLen := rfl
@[simp] theorem applyWrite_ready_fbValid (s : State) :
    (applyWrite (.ready) s).fbValid = s.fbValid := rfl
@[simp] theorem applyWrite_ready_fbMode (s : State) :
    (applyWrite (.ready) s).fbMode = s.fbMode := rfl
@[simp] theorem applyWrite_ready_plLen (s : State) :
    (applyWrite (.ready) s).plLen = s.plLen := rfl
@[simp] theorem applyWrite_ready_rstO (s : State) :
    (applyWrite (.ready) s).rstO = s.rstO := rfl
@[simp] theorem applyWrite_ready_dcO (s : State) :
    (applyWrite (.ready) s).dcO = s.dcO := rfl
@[simp] theorem applyWrite_ready_csO (s : State) :
    (applyWrite (.ready) s).csO = s.csO := rfl
@[simp] theorem applyWrite_ready_fb (s : State) :
    (applyWrite (.ready) s).fb = s.fb := rfl
@[simp] theorem applyWrite_ready_plBw (s : State) :
    (applyWrite (.ready) s).plBw = s.plBw := rfl
@[simp] theorem applyWrite_ready_plRed (s : State) :
    (applyWrite (.ready) s).plRed = s.plRed := rfl
@[simp] theorem applyWrite_ready_panelUndef (s : State) :
    (applyWrite (.ready) s).panelUndef = s.panelUndef := rfl
@[simp] theorem applyWrite_frame_dstate (m : ColorMode) (bs : List Byte) (s : State) :
    (applyWrite (.frame m bs) s).dstate = s.dstate := rfl
@[simp] theorem applyWrite_frame_refreshCnt (m : ColorMode) (bs : List Byte) (s : State) :
    (applyWrite (.frame m bs) s).refreshCnt = s.refreshCnt := rfl
@[simp] theorem applyWrite_frame_prefFast (m : ColorMode) (bs : List Byte) (s : State) :
    (applyWrite (.frame m bs) s).prefFast = s.prefFast := rfl
@[simp] theorem applyWrite_frame_attached (m : ColorMode) (bs : List Byte) (s : State) :
    (applyWrite (.frame m bs) s).attached = s.attached := rfl
@[simp] theorem applyWrite_frame_fbLen (m : ColorMode) (bs : List Byte) (s : State) :
    (applyWrite (.frame m bs) s).fbLen = BitVec.ofNat 32 bs.length := rfl
@[simp] theorem applyWrite_frame_fbValid (m : ColorMode) (bs : List Byte) (s : State) :
    (applyWrite (.frame m bs) s).fbValid = true := rfl
@[simp] theorem applyWrite_frame_fbMode (m : ColorMode) (bs : List Byte) (s : State) :
    (applyWrite (.frame m bs) s).fbMode = m := rfl
@[simp] theorem applyWrite_frame_plLen (m : ColorMode) (bs : List Byte) (s : State) :
    (applyWrite (.frame m bs) s).plLen = s.plLen := rfl
@[simp] theorem applyWrite_frame_rstO (m : ColorMode) (bs : List Byte) (s : State) :
    (applyWrite (.frame m bs) s).rstO = s.rstO := rfl
@[simp] theorem applyWrite_frame_dcO (m : ColorMode) (bs : List Byte) (s : State) :
    (applyWrite (.frame m bs) s).dcO = s.dcO := rfl
@[simp] theorem applyWrite_frame_csO (m : ColorMode) (bs : List Byte) (s : State) :
    (applyWrite (.frame m bs) s).csO = s.csO := rfl
@[simp] theorem applyWrite_frame_fb (m : ColorMode) (bs : List Byte) (s : State) :
    (applyWrite (.frame m bs) s).fb = Memory.ofBytes bs := rfl
@[simp] theorem applyWrite_frame_plBw (m : ColorMode) (bs : List Byte) (s : State) :
    (applyWrite (.frame m bs) s).plBw = s.plBw := rfl
@[simp] theorem applyWrite_frame_plRed (m : ColorMode) (bs : List Byte) (s : State) :
    (applyWrite (.frame m bs) s).plRed = s.plRed := rfl
@[simp] theorem applyWrite_frame_panelUndef (m : ColorMode) (bs : List Byte) (s : State) :
    (applyWrite (.frame m bs) s).panelUndef = s.panelUndef := rfl
@[simp] theorem applyWrite_planes_dstate (bw red : List Byte) (s : State) :
    (applyWrite (.planes bw red) s).dstate = s.dstate := rfl
@[simp] theorem applyWrite_planes_refreshCnt (bw red : List Byte) (s : State) :
    (applyWrite (.planes bw red) s).refreshCnt = s.refreshCnt := rfl
@[simp] theorem applyWrite_planes_prefFast (bw red : List Byte) (s : State) :
    (applyWrite (.planes bw red) s).prefFast = s.prefFast := rfl
@[simp] theorem applyWrite_planes_attached (bw red : List Byte) (s : State) :
    (applyWrite (.planes bw red) s).attached = s.attached := rfl
@[simp] theorem applyWrite_planes_fbLen (bw red : List Byte) (s : State) :
    (applyWrite (.planes bw red) s).fbLen = s.fbLen := rfl
@[simp] theorem applyWrite_planes_fbValid (bw red : List Byte) (s : State) :
    (applyWrite (.planes bw red) s).fbValid = s.fbValid := rfl
@[simp] theorem applyWrite_planes_fbMode (bw red : List Byte) (s : State) :
    (applyWrite (.planes bw red) s).fbMode = s.fbMode := rfl
@[simp] theorem applyWrite_planes_plLen (bw red : List Byte) (s : State) :
    (applyWrite (.planes bw red) s).plLen = s.fbLen / 2 := rfl
@[simp] theorem applyWrite_planes_rstO (bw red : List Byte) (s : State) :
    (applyWrite (.planes bw red) s).rstO = s.rstO := rfl
@[simp] theorem applyWrite_planes_dcO (bw red : List Byte) (s : State) :
    (applyWrite (.planes bw red) s).dcO = s.dcO := rfl
@[simp] theorem applyWrite_planes_csO (bw red : List Byte) (s : State) :
    (applyWrite (.planes bw red) s).csO = s.csO := rfl
@[simp] theorem applyWrite_planes_fb (bw red : List Byte) (s : State) :
    (applyWrite (.planes bw red) s).fb = s.fb := rfl
@[simp] theorem applyWrite_planes_plBw (bw red : List Byte) (s : State) :
    (applyWrite (.planes bw red) s).plBw = Memory.ofBytes bw := rfl
@[simp] theorem applyWrite_planes_plRed (bw red : List Byte) (s : State) :
    (applyWrite (.planes bw red) s).plRed = Memory.ofBytes red := rfl
@[simp] theorem applyWrite_planes_panelUndef (bw red : List Byte) (s : State) :
    (applyWrite (.planes bw red) s).panelUndef = s.panelUndef := rfl
@[simp] theorem applyWrite_refreshed_dstate (s : State) :
    (applyWrite (.refreshed) s).dstate = s.dstate := rfl
@[simp] theorem applyWrite_refreshed_refreshCnt (s : State) :
    (applyWrite (.refreshed) s).refreshCnt = 0 := rfl
@[simp] theorem applyWrite_refreshed_prefFast (s : State) :
    (applyWrite (.refreshed) s).prefFast = s.prefFast := rfl
@[simp] theorem applyWrite_refreshed_attached (s : State) :
    (applyWrite (.refreshed) s).attached = s.attached := rfl
@[simp] theorem applyWrite_refreshed_fbLen (s : State) :
    (applyWrite (.refreshed) s).fbLen = s.fbLen := rfl
@[simp] theorem applyWrite_refreshed_fbValid (s : State) :
    (applyWrite (.refreshed) s).fbValid = s.fbValid := rfl
@[simp] theorem applyWrite_refreshed_fbMode (s : State) :
    (applyWrite (.refreshed) s).fbMode = s.fbMode := rfl
@[simp] theorem applyWrite_refreshed_plLen (s : State) :
    (applyWrite (.refreshed) s).plLen = s.plLen := rfl
@[simp] theorem applyWrite_refreshed_rstO (s : State) :
    (applyWrite (.refreshed) s).rstO = s.rstO := rfl
@[simp] theorem applyWrite_refreshed_dcO (s : State) :
    (applyWrite (.refreshed) s).dcO = s.dcO := rfl
@[simp] theorem applyWrite_refreshed_csO (s : State) :
    (applyWrite (.refreshed) s).csO = s.csO := rfl
@[simp] theorem applyWrite_refreshed_fb (s : State) :
    (applyWrite (.refreshed) s).fb = s.fb := rfl
@[simp] theorem applyWrite_refreshed_plBw (s : State) :
    (applyWrite (.refreshed) s).plBw = s.plBw := rfl
@[simp] theorem applyWrite_refreshed_plRed (s : State) :
    (applyWrite (.refreshed) s).plRed = s.plRed := rfl
@[simp] theorem applyWrite_refreshed_panelUndef (s : State) :
    (applyWrite (.refreshed) s).panelUndef = s.panelUndef := rfl
@[simp] theorem applyWrite_consumed_dstate (s : State) :
    (applyWrite (.consumed) s).dstate = s.dstate := rfl
@[simp] theorem applyWrite_consumed_refreshCnt (s : State) :
    (applyWrite (.consumed) s).refreshCnt = s.refreshCnt := rfl
@[simp] theorem applyWrite_consumed_prefFast (s : State) :
    (applyWrite (.consumed) s).prefFast = s.prefFast := rfl
@[simp] theorem applyWrite_consumed_attached (s : State) :
    (applyWrite (.consumed) s).attached = s.attached := rfl
@[simp] theorem applyWrite_consumed_fbLen (s : State) :
    (applyWrite (.consumed) s).fbLen = s.fbLen := rfl
@[simp] theorem applyWrite_consumed_fbValid (s : State) :
    (applyWrite (.consumed) s).fbValid = false := rfl
@[simp] theorem applyWrite_consumed_fbMode (s : State) :
    (applyWrite (.consumed) s).fbMode = s.fbMode := rfl
@[simp] theorem applyWrite_consumed_plLen (s : State) :
    (applyWrite (.consumed) s).plLen = s.plLen := rfl
@[simp] theorem applyWrite_consumed_rstO (s : State) :
    (applyWrite (.consumed) s).rstO = s.rstO := rfl
@[simp] theorem applyWrite_consumed_dcO (s : State) :
    (applyWrite (.consumed) s).dcO = s.dcO := rfl
@[simp] theorem applyWrite_consumed_csO (s : State) :
    (applyWrite (.consumed) s).csO = s.csO := rfl
@[simp] theorem applyWrite_consumed_fb (s : State) :
    (applyWrite (.consumed) s).fb = s.fb := rfl
@[simp] theorem applyWrite_consumed_plBw (s : State) :
    (applyWrite (.consumed) s).plBw = s.plBw := rfl
@[simp] theorem applyWrite_consumed_plRed (s : State) :
    (applyWrite (.consumed) s).plRed = s.plRed := rfl
@[simp] theorem applyWrite_consumed_panelUndef (s : State) :
    (applyWrite (.consumed) s).panelUndef = s.panelUndef := rfl
@[simp] theorem applyWrite_sleeping_dstate (s : State) :
    (applyWrite (.sleeping) s).dstate = .sleeping := rfl
@[simp] theorem applyWrite_sleeping_refreshCnt (s : State) :
    (applyWrite (.sleeping) s).refreshCnt = s.refreshCnt := rfl
@[simp] theorem applyWrite_sleeping_prefFast (s : State) :
    (applyWrite (.sleeping) s).prefFast = s.prefFast := rfl
@[simp] theorem applyWrite_sleeping_attached (s : State) :
    (applyWrite (.sleeping) s).attached = false := rfl
@[simp] theorem applyWrite_sleeping_fbLen (s : State) :
    (applyWrite (.sleeping) s).fbLen = s.fbLen := rfl
@[simp] theorem applyWrite_sleeping_fbValid (s : State) :
    (applyWrite (.sleeping) s).fbValid = s.fbValid := rfl
@[simp] theorem applyWrite_sleeping_fbMode (s : State) :
    (applyWrite (.sleeping) s).fbMode = s.fbMode := rfl
@[simp] theorem applyWrite_sleeping_plLen (s : State) :
    (applyWrite (.sleeping) s).plLen = s.plLen := rfl
@[simp] theorem applyWrite_sleeping_rstO (s : State) :
    (applyWrite (.sleeping) s).rstO = none := rfl
@[simp] theorem applyWrite_sleeping_dcO (s : State) :
    (applyWrite (.sleeping) s).dcO = none := rfl
@[simp] theorem applyWrite_sleeping_csO (s : State) :
    (applyWrite (.sleeping) s).csO = none := rfl
@[simp] theorem applyWrite_sleeping_fb (s : State) :
    (applyWrite (.sleeping) s).fb = s.fb := rfl
@[simp] theorem applyWrite_sleeping_plBw (s : State) :
    (applyWrite (.sleeping) s).plBw = s.plBw := rfl
@[simp] theorem applyWrite_sleeping_plRed (s : State) :
    (applyWrite (.sleeping) s).plRed = s.plRed := rfl
@[simp] theorem applyWrite_sleeping_panelUndef (s : State) :
    (applyWrite (.sleeping) s).panelUndef = s.panelUndef := rfl
@[simp] theorem applyWrite_attached_dstate (s : State) :
    (applyWrite (.attached) s).dstate = s.dstate := rfl
@[simp] theorem applyWrite_attached_refreshCnt (s : State) :
    (applyWrite (.attached) s).refreshCnt = s.refreshCnt := rfl
@[simp] theorem applyWrite_attached_prefFast (s : State) :
    (applyWrite (.attached) s).prefFast = s.prefFast := rfl
@[simp] theorem applyWrite_attached_attached (s : State) :
    (applyWrite (.attached) s).attached = true := rfl
@[simp] theorem applyWrite_attached_fbLen (s : State) :
    (applyWrite (.attached) s).fbLen = s.fbLen := rfl
@[simp] theorem applyWrite_attached_fbValid (s : State) :
    (applyWrite (.attached) s).fbValid = s.fbValid := rfl
@[simp] theorem applyWrite_attached_fbMode (s : State) :
    (applyWrite (.attached) s).fbMode = s.fbMode := rfl
@[simp] theorem applyWrite_attached_plLen (s : State) :
    (applyWrite (.attached) s).plLen = s.plLen := rfl
@[simp] theorem applyWrite_attached_rstO (s : State) :
    (applyWrite (.attached) s).rstO = none := rfl
@[simp] theorem applyWrite_attached_dcO (s : State) :
    (applyWrite (.attached) s).dcO = none := rfl
@[simp] theorem applyWrite_attached_csO (s : State) :
    (applyWrite (.attached) s).csO = none := rfl
@[simp] theorem applyWrite_attached_fb (s : State) :
    (applyWrite (.attached) s).fb = s.fb := rfl
@[simp] theorem applyWrite_attached_plBw (s : State) :
    (applyWrite (.attached) s).plBw = s.plBw := rfl
@[simp] theorem applyWrite_attached_plRed (s : State) :
    (applyWrite (.attached) s).plRed = s.plRed := rfl
@[simp] theorem applyWrite_attached_panelUndef (s : State) :
    (applyWrite (.attached) s).panelUndef = s.panelUndef := rfl

/-! ### `portAnswer`: only the read data of its own port -/

@[simp] theorem portAnswer_fb_eq (b : Byte) (s : State) : portAnswer .fb b s = { s with fbRdata := b } := rfl
@[simp] theorem portAnswer_plBw_eq (b : Byte) (s : State) : portAnswer .plBw b s = { s with plBwRdata := b } := rfl
@[simp] theorem portAnswer_plRed_eq (b : Byte) (s : State) : portAnswer .plRed b s = { s with plRedRdata := b } := rfl

end Sys2Proof.Machine
end

