-- ==== Sys2Proof/Laws/Exec.lean ====
section
/-! SUPPORT. What the shared operations and `exec` can do, said once: the guards, the start of an operation, the
emission of a panel command, and the four outcomes of `exec` that are a next state. -/

namespace Sys2Proof.Machine

open Sys2Proof.Safety

/-! ### Guards -/

@[simp] theorem busyOp_iff_not_idle (s : State) : busyOp s = true ↔ s.seq ≠ .idle := by
  cases h : s.seq <;> simp [busyOp, h]

theorem busyOp_eq_false {s : State} (h : s.seq = .idle) : busyOp s = false := by simp [busyOp, h]

theorem whenIdle_of_idle {s : State} (o : Outcome) (h : s.seq = .idle) : whenIdle s o = o := by
  simp [whenIdle, busyOp_eq_false h]

theorem whenIdle_of_busy {s : State} (o : Outcome) (h : s.seq ≠ .idle) : whenIdle s o = .next s := by
  simp [whenIdle, h]

theorem whenAttached_of_attached {s : State} (o : Outcome) (h : s.attached = true) : whenAttached s o = o := by
  simp [whenAttached, h]

theorem whenAttached_of_released {s : State} (o : Outcome) (h : s.attached = false) :
    whenAttached s o = .next (raise .busFailure s) := by
  simp [whenAttached, h]

theorem whenAwake_of_awake {s : State} (o : Outcome) (h : s.dstate ≠ .sleeping) : whenAwake s o = o := by
  simp [whenAwake, h]

theorem whenAwake_of_sleeping {s : State} (o : Outcome) (h : s.dstate = .sleeping) :
    whenAwake s o = .next (raise .notReady s) := by
  simp [whenAwake, h]

theorem whenTagged_of_tagged {m : ColorMode} {s : State} (o : Outcome) (hv : s.fbValid = true) (hm : s.fbMode = m) :
    whenTagged m s o = o := by
  simp [whenTagged, frameTagged, hv, hm]

theorem whenTagged_of_untagged {m : ColorMode} {s : State} (o : Outcome) (h : ¬(s.fbValid = true ∧ s.fbMode = m)) :
    whenTagged m s o = .refused .frameTagMismatch := by
  rw [whenTagged, if_neg]
  simpa [frameTagged] using h

theorem raise_idle {e : ErrorCode} {s : State} (h : s.seq = .idle) :
    raise e s = { s with err := e, done := true } := by
  cases s
  simp_all [raise]

/-- The answers a guarded operation of the host can give: the state as it was, an error, a start, or a stop. -/
inductive HostAnswer (s : State) : Outcome → Prop where
  | ignored : HostAnswer s (.next s)
  | raised (e : ErrorCode) (h : s.seq = .idle) : HostAnswer s (.next (raise e s))
  | started (op : Instr) (rest : List Micro) (h : s.seq = .idle) :
      HostAnswer s (.next { s with seq := .busy op 0 false rest })
  | refused (r : Refusal) (h : s.seq = .idle) : HostAnswer s (.refused r)

theorem HostAnswer.whenIdle {s : State} {o : Outcome} (h : s.seq = .idle → HostAnswer s o) :
    HostAnswer s (Machine.whenIdle s o) := by
  by_cases hb : s.seq = .idle
  · simpa [whenIdle_of_idle o hb] using h hb
  · simpa [whenIdle_of_busy o hb] using HostAnswer.ignored

theorem HostAnswer.whenAttached {s : State} {o : Outcome} (hi : s.seq = .idle) (h : HostAnswer s o) :
    HostAnswer s (Machine.whenAttached s o) := by
  unfold Machine.whenAttached
  split
  · exact h
  · exact .raised _ hi

theorem HostAnswer.whenAwake {s : State} {o : Outcome} (hi : s.seq = .idle) (h : HostAnswer s o) :
    HostAnswer s (Machine.whenAwake s o) := by
  unfold Machine.whenAwake
  split
  · exact .raised _ hi
  · exact h

theorem HostAnswer.whenTagged {m : ColorMode} {s : State} {o : Outcome} (hi : s.seq = .idle) (h : HostAnswer s o) :
    HostAnswer s (Machine.whenTagged m s o) := by
  unfold Machine.whenTagged
  split
  · exact h
  · exact .refused _ hi

theorem HostAnswer.encodeGrid {s : State} (hi : s.seq = .idle) (op : Instr) (m : ColorMode)
    (pack : Config → (Nat → Nat → Byte) → List Byte) : HostAnswer s (Machine.encodeGrid op m pack s) := by
  unfold Machine.encodeGrid
  split
  · split
    · exact .raised _ hi
    · split
      · exact .started _ _ hi
      · exact .refused _ hi
  · exact .refused _ hi

/-- Every operation of the host and the platform answers in one of those four ways. -/
theorem exec_hostAnswer (i : Instr) (s : State) (h : isPanelCommand i = false) : HostAnswer s (exec i s) := by
  cases i <;> simp only [isPanelCommand, Bool.true_eq_false] at h <;>
    refine HostAnswer.whenIdle fun hi => ?_
  case reset => exact .whenAttached hi (.started _ _ hi)
  case init => exact .whenAttached hi (.started _ _ hi)
  case displayFrame1B => exact .whenAwake hi (.whenTagged hi (.whenAttached hi (.started _ _ hi)))
  case displayFrame4L => exact .whenAwake hi (.whenTagged hi (.whenAttached hi (.started _ _ hi)))
  case clear1B => exact .whenAwake hi (.whenAttached hi (.started _ _ hi))
  case clear4L => exact .whenAwake hi (.whenAttached hi (.started _ _ hi))
  case sleep => exact .whenAttached hi (.started _ _ hi)
  case waitIdle => exact .whenAttached hi (.started _ _ hi)
  case encode1B => exact .encodeGrid hi _ _ _
  case encode4L => exact .encodeGrid hi _ _ _
  case derivePlanes => exact .whenTagged hi (.started _ _ hi)
  case attach =>
    split
    · exact .ignored
    · exact .started _ _ hi
  all_goals exact .raised _ hi

/-! ### Panel commands -/

theorem sendArgs_eq (bs : List Byte) : sendArgs bs = (bs.flatMap dataFrame).map Micro.emit := by
  induction bs with
  | nil => rfl
  | cons b bs ih =>
    simp only [sendArgs, List.flatMap_cons, List.map_append] at ih ⊢
    rw [ih]
    rfl

theorem emitCommand_busy {s : State} {op : Instr} {idx : Nat} {touched : Bool} {rest : List Micro}
    (o : Byte) (args : List Byte) (h : s.seq = .busy op idx touched rest) :
    emitCommand o args s =
      .next { s with seq := .busy op idx touched ((commandEvents o args).map Micro.emit ++ rest) } := by
  simp [emitCommand, queue, h, sendArgs_eq, commandEvents, commandFrame, sendCommand, pinDc, pinCs]

theorem emitPlane_busy {s : State} {op : Instr} {idx : Nat} {touched : Bool} {rest : List Micro}
    (o : Byte) (p : List Byte) (h : s.seq = .busy op idx touched rest) :
    emitPlane o p s =
      .next { s with seq := .busy op idx touched ((planeEvents o p).map Micro.emit ++ rest) } := by
  simp [emitPlane, queue, h, planeEvents, commandFrame, bulkFrame, sendCommand, sendDataBulk, pinDc, pinCs]

/-- A panel command taken up inside an operation puts its wire events in front of the rest, and changes nothing
else. -/
theorem exec_panel_busy (i : Instr) {s : State} {op : Instr} {idx : Nat} {touched : Bool} {rest : List Micro}
    (hi : isPanelCommand i = true) (h : s.seq = .busy op idx touched rest) :
    exec i s =
      .next { s with seq := .busy op idx touched ((panelEvents s.cfg i).map Micro.emit ++ rest) } := by
  cases i <;> simp only [isPanelCommand, Bool.false_eq_true] at hi <;>
    first
      | exact emitCommand_busy _ _ h
      | exact emitPlane_busy _ _ h

/-! ### The state writes -/

theorem applyWrite_seq_eq (w : StateWrite) (s : State) : (applyWrite w s).seq = s.seq := by simp

end Sys2Proof.Machine
end

