-- ==== Sys2Proof/Laws/Memory.lean ====
section
/-! SUPPORT. The laws of the memories: a read after a write, the canonical form kept by every operation, and what a
freshly allocated memory holds. -/

namespace Sys2Proof.Machine

@[simp] theorem Memory.read_nil (k : Nat) : Memory.read [] k = none := rfl

theorem Memory.read_cons (x : Host.Cell) (m : Memory) (k : Nat) :
    Memory.read (x :: m) k = if x.1 = k then some x.2 else Memory.read m k := rfl

/-- A read of the address just written gives the value written. -/
@[simp] theorem Memory.read_write_same (m : Memory) (k : Nat) (v : Byte) :
    Memory.read (Memory.write m k v) k = some v := by
  induction m with
  | nil => simp [Memory.write, Memory.read]
  | cons x m ih =>
    obtain ⟨a, b⟩ := x
    by_cases h1 : k < a
    · simp [Memory.write, Memory.read, h1]
    · by_cases h2 : k = a
      · simp [Memory.write, Memory.read, h2]
      · have h3 : ¬ a = k := fun h => h2 h.symm
        simp [Memory.write, Memory.read, h1, h2, h3, ih]

/-- A write leaves every other address alone. -/
theorem Memory.read_write_other (m : Memory) {k j : Nat} (v : Byte) (h : j ≠ k) :
    Memory.read (Memory.write m k v) j = Memory.read m j := by
  have hkj : ¬ k = j := fun e => h e.symm
  induction m with
  | nil => simp [Memory.write, Memory.read, hkj]
  | cons x m ih =>
    obtain ⟨a, b⟩ := x
    by_cases h1 : k < a
    · simp [Memory.write, Memory.read, h1, hkj]
    · by_cases h2 : k = a
      · have h3 : ¬ a = j := fun e => hkj (h2.trans e)
        subst h2
        simp [Memory.write, Memory.read, hkj]
      · simp [Memory.write, Memory.read, h1, h2, ih]

/-- The addresses of a memory after a write. -/
theorem Memory.mem_write {m : Memory} {k : Nat} {v : Byte} {x : Host.Cell} (h : x ∈ Memory.write m k v) :
    x = (k, v) ∨ x ∈ m := by
  induction m with
  | nil => simpa [Memory.write] using h
  | cons y m ih =>
    obtain ⟨a, b⟩ := y
    simp only [Memory.write] at h
    split at h
    · simpa using h
    · split at h
      · rcases List.mem_cons.1 h with rfl | h'
        · exact .inl rfl
        · exact .inr (List.mem_cons_of_mem _ h')
      · rcases List.mem_cons.1 h with rfl | h'
        · exact .inr List.mem_cons_self
        · rcases ih h' with rfl | h''
          · exact .inl rfl
          · exact .inr (List.mem_cons_of_mem _ h'')

theorem Memory.wf_cons {a : Nat} {b : Byte} {m : Memory} :
    Memory.wf ((a, b) :: m) ↔ (∀ x ∈ m, a < x.1) ∧ Memory.wf m := by
  simp [Memory.wf, List.pairwise_cons]

/-- A write keeps the canonical form. -/
theorem Memory.write_wf {m : Memory} (k : Nat) (v : Byte) (h : m.wf) : (Memory.write m k v).wf := by
  induction m with
  | nil => simp [Memory.write, Memory.wf]
  | cons x m ih =>
    obtain ⟨a, b⟩ := x
    obtain ⟨hlt, hm⟩ := Memory.wf_cons.1 h
    by_cases h1 : k < a
    · simp only [Memory.write, h1, if_true]
      refine Memory.wf_cons.2 ⟨?_, h⟩
      rintro x (_ | ⟨_, hx⟩)
      · exact h1
      · exact h1.trans (hlt x hx)
    · by_cases h2 : k = a
      · subst h2
        simpa [Memory.write] using Memory.wf_cons.2 ⟨hlt, hm⟩
      · simp only [Memory.write, h1, h2, if_false]
        refine Memory.wf_cons.2 ⟨?_, ih hm⟩
        intro x hx
        rcases Memory.mem_write hx with rfl | hx
        · show a < k
          omega
        · exact hlt x hx

/-- The empty memory is canonical. -/
theorem Memory.nil_wf : Memory.wf [] := List.Pairwise.nil

/-- What a memory allocated from address `n` on reads as. -/
theorem Memory.read_ofBytesFrom (n : Nat) (bs : List Byte) (k : Nat) :
    Memory.read (Memory.ofBytesFrom n bs) k = if n ≤ k then bs[k - n]? else none := by
  induction bs generalizing n with
  | nil => simp [Memory.ofBytesFrom]
  | cons b bs ih =>
    simp only [Memory.ofBytesFrom, Memory.read, ih]
    rcases Nat.lt_trichotomy n k with h | rfl | h
    · obtain ⟨j, rfl⟩ := Nat.exists_eq_add_of_lt h
      have h1 : ¬ n = n + j + 1 := by omega
      have h2 : n + j + 1 - n = j + 1 := by omega
      have h3 : n + j + 1 - (n + 1) = j := by omega
      have h4 : n + 1 ≤ n + j + 1 := by omega
      have h5 : n ≤ n + j + 1 := by omega
      simp [h1, h2, h3, h4, h5]
    · simp
    · have h1 : ¬ n = k := by omega
      have h2 : ¬ n ≤ k := by omega
      have h3 : ¬ n + 1 ≤ k := by omega
      simp [h1, h2, h3]

/-- What a freshly allocated memory reads as. -/
@[simp] theorem Memory.read_ofBytes (bs : List Byte) (k : Nat) : Memory.read (Memory.ofBytes bs) k = bs[k]? := by
  simp [Memory.ofBytes, Memory.read_ofBytesFrom]

theorem Memory.mem_ofBytesFrom {n : Nat} {bs : List Byte} {x : Host.Cell} (h : x ∈ Memory.ofBytesFrom n bs) :
    n ≤ x.1 ∧ x.1 < n + bs.length := by
  induction bs generalizing n with
  | nil => simp [Memory.ofBytesFrom] at h
  | cons b bs ih =>
    rcases List.mem_cons.1 h with rfl | h
    · simp
    · have := ih h
      simp only [List.length_cons]
      omega

/-- The addresses of a freshly allocated memory lie below its length. -/
theorem Memory.mem_ofBytes {bs : List Byte} {x : Host.Cell} (h : x ∈ Memory.ofBytes bs) : x.1 < bs.length := by
  have := Memory.mem_ofBytesFrom h
  omega

theorem Memory.ofBytesFrom_wf (n : Nat) (bs : List Byte) : (Memory.ofBytesFrom n bs).wf := by
  induction bs generalizing n with
  | nil => exact Memory.nil_wf
  | cons b bs ih =>
    refine Memory.wf_cons.2 ⟨fun x hx => ?_, ih (n + 1)⟩
    have := Memory.mem_ofBytesFrom hx
    omega

/-- A freshly allocated memory is canonical. -/
theorem Memory.ofBytes_wf (bs : List Byte) : (Memory.ofBytes bs).wf := Memory.ofBytesFrom_wf 0 bs

/-- The four memories at reset are canonical. -/
theorem reset_memories_wf (c : Config) :
    (State.resetWith c).img.wf ∧ (State.resetWith c).fb.wf ∧ (State.resetWith c).plBw.wf ∧
      (State.resetWith c).plRed.wf :=
  ⟨Memory.nil_wf, Memory.nil_wf, Memory.nil_wf, Memory.nil_wf⟩

/-- Two `IMG` elements have one address only if their coordinates agree. -/
theorem imgAddr_inj {x y x' y' : BitVec 16} (h : imgAddr x.toNat y.toNat = imgAddr x'.toNat y'.toNat) :
    x = x' ∧ y = y' := by
  have hx := x.isLt
  have hx' := x'.isLt
  unfold imgAddr at h
  constructor <;> apply BitVec.eq_of_toNat_eq <;> omega

end Sys2Proof.Machine
end

