-- ==== Sys2Proof/Laws/PerInstr.lean ====
section
/-! SUPPORT. The families of statements made per instruction (LAWS.json), one lemma per constructor of Instr. -/

namespace Sys2Proof.Laws

/-- Whether an encoding is a byte trace on the wire. -/
def EncodingSpace.onWire : Encoding → Bool
  | .command _ => false
  | .attachInput => false
  | .wire _ => true

/-- Panel commands, and only they, are encoded as items on the wire (30_encoding R69, R70); every other instruction is
a command word or the `attach` input (30_encoding R65, R66). -/
def EncodingSpace.Statement (i : Instr) : Prop :=
  ∀ c : Config, EncodingSpace.onWire (encode c i) = Safety.isPanelCommand i

theorem EncodingSpace.reset : EncodingSpace.Statement .reset := fun _ => rfl

theorem EncodingSpace.init (fast : Bool) : EncodingSpace.Statement (.init fast) := fun _ => rfl

theorem EncodingSpace.displayFrame1B : EncodingSpace.Statement .displayFrame1B := fun _ => rfl

theorem EncodingSpace.displayFrame4L : EncodingSpace.Statement .displayFrame4L := fun _ => rfl

theorem EncodingSpace.clear1B : EncodingSpace.Statement .clear1B := fun _ => rfl

theorem EncodingSpace.clear4L : EncodingSpace.Statement .clear4L := fun _ => rfl

theorem EncodingSpace.sleep : EncodingSpace.Statement .sleep := fun _ => rfl

theorem EncodingSpace.waitIdle : EncodingSpace.Statement .waitIdle := fun _ => rfl

theorem EncodingSpace.encode1B : EncodingSpace.Statement .encode1B := fun _ => rfl

theorem EncodingSpace.encode4L : EncodingSpace.Statement .encode4L := fun _ => rfl

theorem EncodingSpace.derivePlanes : EncodingSpace.Statement .derivePlanes := fun _ => rfl

theorem EncodingSpace.displayFrameBadMode : EncodingSpace.Statement .displayFrameBadMode := fun _ => rfl

theorem EncodingSpace.clearBadMode : EncodingSpace.Statement .clearBadMode := fun _ => rfl

theorem EncodingSpace.encodeBadMode : EncodingSpace.Statement .encodeBadMode := fun _ => rfl

theorem EncodingSpace.reservedRsv : EncodingSpace.Statement .reservedRsv := fun _ => rfl

theorem EncodingSpace.reservedOpc0 : EncodingSpace.Statement .reservedOpc0 := fun _ => rfl

theorem EncodingSpace.reservedOpc7 : EncodingSpace.Statement .reservedOpc7 := fun _ => rfl

theorem EncodingSpace.reservedOpcA : EncodingSpace.Statement .reservedOpcA := fun _ => rfl

theorem EncodingSpace.reservedOpcB : EncodingSpace.Statement .reservedOpcB := fun _ => rfl

theorem EncodingSpace.reservedOpcC : EncodingSpace.Statement .reservedOpcC := fun _ => rfl

theorem EncodingSpace.reservedOpcD : EncodingSpace.Statement .reservedOpcD := fun _ => rfl

theorem EncodingSpace.reservedOpcE : EncodingSpace.Statement .reservedOpcE := fun _ => rfl

theorem EncodingSpace.reservedOpcF : EncodingSpace.Statement .reservedOpcF := fun _ => rfl

theorem EncodingSpace.attach : EncodingSpace.Statement .attach := fun _ => rfl

theorem EncodingSpace.swReset : EncodingSpace.Statement .swReset := fun _ => rfl

theorem EncodingSpace.autoWriteRed : EncodingSpace.Statement .autoWriteRed := fun _ => rfl

theorem EncodingSpace.autoWriteBw : EncodingSpace.Statement .autoWriteBw := fun _ => rfl

theorem EncodingSpace.gateSetting : EncodingSpace.Statement .gateSetting := fun _ => rfl

theorem EncodingSpace.gateVoltage : EncodingSpace.Statement .gateVoltage := fun _ => rfl

theorem EncodingSpace.sourceVoltage : EncodingSpace.Statement .sourceVoltage := fun _ => rfl

theorem EncodingSpace.dataEntryMode : EncodingSpace.Statement .dataEntryMode := fun _ => rfl

theorem EncodingSpace.borderWaveform : EncodingSpace.Statement .borderWaveform := fun _ => rfl

theorem EncodingSpace.boosterStrength : EncodingSpace.Statement .boosterStrength := fun _ => rfl

theorem EncodingSpace.tempSensor : EncodingSpace.Statement .tempSensor := fun _ => rfl

theorem EncodingSpace.vcom : EncodingSpace.Statement .vcom := fun _ => rfl

theorem EncodingSpace.displayOption (fast : Bool) : EncodingSpace.Statement (.displayOption fast) := fun _ => rfl

theorem EncodingSpace.ramXWindow : EncodingSpace.Statement .ramXWindow := fun _ => rfl

theorem EncodingSpace.ramYWindow : EncodingSpace.Statement .ramYWindow := fun _ => rfl

theorem EncodingSpace.displayUpdateControl2 (v : Byte) : EncodingSpace.Statement (.displayUpdateControl2 v) := fun _ => rfl

theorem EncodingSpace.setRamXCounter : EncodingSpace.Statement .setRamXCounter := fun _ => rfl

theorem EncodingSpace.setRamYCounter : EncodingSpace.Statement .setRamYCounter := fun _ => rfl

theorem EncodingSpace.writeRamBw (p : List Byte) : EncodingSpace.Statement (.writeRamBw p) := fun _ => rfl

theorem EncodingSpace.writeRamRed (p : List Byte) : EncodingSpace.Statement (.writeRamRed p) := fun _ => rfl

theorem EncodingSpace.masterActivation : EncodingSpace.Statement .masterActivation := fun _ => rfl

theorem EncodingSpace.writeLut (t : List Byte) : EncodingSpace.Statement (.writeLut t) := fun _ => rfl

theorem EncodingSpace.deepSleep : EncodingSpace.Statement .deepSleep := fun _ => rfl

end Sys2Proof.Laws
end

