-- ==== Sys2Proof/Laws/Sequencer.lean ====
section
/-! SUPPORT. What one turn of the sequencer can do, and how turns compose into a run of the machine. -/

namespace Sys2Proof.Machine

open Sys2Proof.Safety

/-! ### One turn -/

theorem advance_idle {s : State} (l : Level) (f : Bool) (h : s.seq = .idle) : advance l f s = .next s := by
  simp [advance, h]

theorem advance_end {s : State} {op : Instr} {idx : Nat} {touched : Bool} (l : Level) (f : Bool)
    (h : s.seq = .busy op idx touched []) : advance l f s = .next (complete s) := by
  simp [advance, h]

theorem advance_emit {s : State} {op : Instr} {idx : Nat} {touched : Bool} {e : WireEvent} {rest : List Micro}
    (l : Level) (h : s.seq = .busy op idx touched (.emit e :: rest)) :
    advance l false s = .next (record e { s with seq := .busy op (idx + 1) true rest }) := by
  simp [advance, h]

theorem advance_emit_fails {s : State} {op : Instr} {idx : Nat} {touched : Bool} {e : WireEvent} {rest : List Micro}
    (l : Level) (h : s.seq = .busy op idx touched (.emit e :: rest)) (he : canFail e = true) :
    advance l true s = .next (failEvent touched s) := by
  simp [advance, h, he]

theorem advance_poll {s : State} {op : Instr} {idx : Nat} {touched : Bool} {rest : List Micro}
    (l : Level) (h : s.seq = .busy op idx touched (.poll :: rest)) :
    advance l false s =
      .next (record (.busy l) { s with seq := .busy op (idx + 1) true (pollAgain s.cfg l rest) }) := by
  simp [advance, h]

theorem advance_write {s : State} {op : Instr} {idx : Nat} {touched : Bool} {w : StateWrite} {rest : List Micro}
    (l : Level) (f : Bool) (h : s.seq = .busy op idx touched (.write w :: rest)) :
    advance l f s = .next (applyWrite w { s with seq := .busy op (idx + 1) touched rest }) := by
  simp [advance, h]

theorem advance_call {s : State} {op : Instr} {idx : Nat} {touched : Bool} {i : Instr} {rest : List Micro}
    (l : Level) (f : Bool) (h : s.seq = .busy op idx touched (.call i :: rest)) :
    advance l f s = exec i { s with seq := .busy op idx touched rest } := by
  simp [advance, h]

/-- What stands before the rest after a sample (40_wire_framing R96). -/
@[simp] theorem pollAgain_idle (c : Config) (rest : List Micro) : pollAgain c (!c.busyActive) rest = rest := by
  cases h : c.busyActive <;> simp [pollAgain, h]

@[simp] theorem pollAgain_busy (c : Config) (rest : List Micro) :
    pollAgain c c.busyActive rest = .emit (.delay Config.tPoll) :: .poll :: rest := by
  simp [pollAgain]

/-! ### Runs -/

@[simp] theorem run_zero (s : State) : Host.Core.run Sys2Proof.core 0 s = .next s := rfl

theorem run_succ (n : Nat) (s : State) :
    Host.Core.run Sys2Proof.core (n + 1) s =
      match step s with
      | .next t => Host.Core.run Sys2Proof.core n t
      | .fault r => .fault r
      | .refused r => .refused r := by
  have hc : Sys2Proof.core.step s = step s := rfl
  cases h : step s with
  | next t => rw [h] at hc; simp only [Host.Core.run, hc]
  | fault r => rw [h] at hc; simp only [Host.Core.run, hc]
  | refused r => rw [h] at hc; simp only [Host.Core.run, hc]

theorem run_succ_of_next {n : Nat} {s t : State} (h : step s = .next t) :
    Host.Core.run Sys2Proof.core (n + 1) s = Host.Core.run Sys2Proof.core n t := by
  rw [run_succ, h]

/-- A run of `m + n` steps is a run of `m` steps and then one of `n`. -/
theorem run_add (m n : Nat) {s t : State} (h : Host.Core.run Sys2Proof.core m s = .next t) :
    Host.Core.run Sys2Proof.core (m + n) s = Host.Core.run Sys2Proof.core n t := by
  induction m generalizing s with
  | zero =>
    rw [run_zero] at h
    cases h
    rw [Nat.zero_add]
  | succ m ih =>
    rw [run_succ] at h
    rw [Nat.succ_add, run_succ]
    cases hs : step s with
    | next u =>
      simp only [hs] at h
      exact ih h
    | fault r => simp [hs] at h
    | refused r => simp [hs] at h

theorem step_of_input {s : State} {i : Input} {rest : List Input} (h : s.inputs = i :: rest) :
    step s = react i { s with inputs := rest, done := false } := by
  simp [step, h]

theorem step_tick {s : State} {l : Level} {f : Bool} {rest : List Input} (h : s.inputs = .tick l f :: rest) :
    step s = advance l f { s with inputs := rest, done := false } := step_of_input h

theorem runsTo_nil (s : State) : runsTo s [] s := fun _ => rfl

/-- Runs compose. -/
theorem runsTo_append {s t u : State} {a b : List Input} (h1 : runsTo s a t) (h2 : runsTo t b u) :
    runsTo s (a ++ b) u := by
  intro rest
  rw [List.length_append, List.append_assoc, run_add _ _ (h1 (b ++ rest))]
  exact h2 rest

/-- One input is one step. -/
theorem runsTo_cons {s t u : State} {i : Input} {b : List Input}
    (h1 : ∀ rest, react i { s with inputs := rest, done := false } = .next { t with inputs := rest })
    (h2 : runsTo t b u) : runsTo s (i :: b) u := by
  intro rest
  show Host.Core.run Sys2Proof.core (b.length + 1) _ = _
  have hs : step { s with inputs := i :: (b ++ rest) } = .next { t with inputs := b ++ rest } :=
    (step_of_input rfl).trans (h1 (b ++ rest))
  rw [List.cons_append, run_succ_of_next hs]
  exact h2 rest

/-- Turns after the end of an operation only end the done pulse, so a host may leave more turns than it needs. -/
theorem runsTo_idle (n : Nat) (c : Config) {s : State} (h : s.seq = .idle) :
    runsTo s (quietTurns c (n + 1)) { s with done := false } := by
  have turn : ∀ {s : State}, s.seq = .idle → ∀ rest,
      react (.tick (!c.busyActive) false) { s with inputs := rest, done := false } =
        .next { s with inputs := rest, done := false } := fun hs _ => advance_idle _ _ hs
  induction n generalizing s with
  | zero => exact runsTo_cons (t := { s with done := false }) (turn h) (runsTo_nil _)
  | succ n ih => exact runsTo_cons (t := { s with done := false }) (turn h) (ih (s := { s with done := false }) h)

/-- A run has not ended while an operation waits to be issued (70_reset_and_hazards R198). -/
theorem runEnded_eq_false_of_mem {s : State} {i : Input} (hi : i ∈ s.inputs) (h : issuesOperation i = true) :
    runEnded s = false := by
  simp only [runEnded, Bool.and_eq_false_iff, Bool.not_eq_false', List.any_eq_true]
  exact .inr ⟨i, hi, h⟩

/-- A list of wire events, none failing, goes on the wire in order (20_memory R50). -/
theorem runsTo_emits (es : List WireEvent) {s : State} {op : Instr} {idx : Nat} {touched : Bool} {rest : List Micro}
    (l : Level) (h : s.seq = .busy op idx touched (es.map Micro.emit ++ rest)) (hes : es ≠ []) :
    runsTo s (List.replicate es.length (.tick l false))
      { s with
        seq := .busy op (idx + es.length) true rest
        trace := s.trace ++ es
        rstO := es.foldl rstAfter s.rstO
        dcO := es.foldl dcAfter s.dcO
        csO := es.foldl csAfter s.csO
        done := false } := by
  induction es generalizing s idx touched with
  | nil => exact absurd rfl hes
  | cons e es ih =>
    refine runsTo_cons
      (t := record e { s with seq := .busy op (idx + 1) true (es.map Micro.emit ++ rest), done := false }) ?_ ?_
    · intro r
      exact advance_emit l h
    · by_cases hnil : es = []
      · subst hnil
        exact runsTo_nil _
      · have := ih (s := record e { s with seq := .busy op (idx + 1) true (es.map Micro.emit ++ rest), done := false })
          (idx := idx + 1) (touched := true) rfl hnil
        simpa [record, Nat.add_assoc, Nat.add_comm 1] using this

end Sys2Proof.Machine
end

