-- ==== Sys2Proof/Tests/Slice0.lean ====
section
/-! SUPPORT. The model's own tests, each a named theorem, and a witness for every obligation that has hypotheses.
Expected values come from the spec: 95_test_vectors (configuration K8), or the rule named. -/

namespace Sys2Proof.Tests

open Sys2Proof Sys2Proof.Machine Sys2Proof.Safety

/-! ## Helpers -/

/-- The example configuration K8 of 95_test_vectors. -/
def k8 : Config where
  w := 8
  h := 2
  partialRefreshLimit := 5
  busyActive := true
  recountBeforeRed := false
  sleepPowerOff := []
  op := Config.defaultOpcodes
  arg :=
    { Config.defaultArguments with gateSetting := [1, 0, 0], ramXWindow := [0, 0, 7, 0], ramYWindow := [0, 0, 1, 0] }
  lutLen := 2
  lutOneBitFull := [0x11, 0x12]
  lutOneBitFast := [0x13, 0x14]
  lutFourLevelFull := [0x21, 0x22]
  lutFourLevelFast := [0x23, 0x24]
  bus := { spiHz := 0, spiMode := 0, busId := 0, devId := 0, rstPin := 1, dcPin := 2, csPin := 3, busyPin := 4 }

/-- K8 just after block reset. -/
def boot : State := State.resetWith k8

/-- K8, attached and Ready. -/
def ready : State := { boot with attached := true, dstate := .ready }

/-- K8, asleep and released. -/
def asleep : State := { boot with dstate := .sleeping }

/-- Write the rows of a grid, element by element. -/
def gridMemory (rows : List (List Byte)) : Memory :=
  rows.zipIdx.foldl (fun m r => r.1.zipIdx.foldl (fun m e => m.write (imgAddr e.2 r.2) e.1) m) []

/-- A state whose host has written a grid of the given rows. -/
def withGrid (rows : List (List Byte)) (s : State) : State :=
  { s with
    img := gridMemory rows
    imgW := BitVec.ofNat 16 (rows.headD []).length
    imgH := BitVec.ofNat 16 rows.length
    imgWSet := true
    imgHSet := true }

/-- A state that holds a frame. -/
def withFrame (m : ColorMode) (bs : List Byte) (s : State) : State :=
  { s with fb := Memory.ofBytes bs, fbLen := BitVec.ofNat 32 bs.length, fbMode := m, fbValid := true }

/-- The state of an outcome that is a next state. -/
def nextOf : Outcome → Option State
  | .next s => some s
  | .fault _ => none
  | .refused _ => none

/-- The refusal of an outcome that is one. -/
def refusalOf : Outcome → Option Refusal
  | .next _ => none
  | .fault _ => none
  | .refused r => some r

/-- The fault of an outcome that is one. -/
def faultOf : Outcome → Option Fault
  | .next _ => none
  | .fault f => some f
  | .refused _ => none

/-- What the sequencer has before it. -/
def pendingOf (s : State) : List Micro :=
  match s.seq with
  | .idle => []
  | .busy _ _ _ rest => rest

/-- What an instruction leaves the sequencer to do from a state. -/
def pendingAfter (i : Instr) (s : State) : Option (List Micro) := (nextOf (exec i s)).map pendingOf

/-- The error an instruction leaves in a state. -/
def errorAfter (i : Instr) (s : State) : Option ErrorCode := (nextOf (exec i s)).map State.err

/-- A state in which an operation runs with nothing left. -/
def running (s : State) : State := { s with seq := .busy (.init false) 3 true [] }

/-- The packed buffer an ENCODE writes from a grid. -/
def frameAfter (i : Instr) (rows : List (List Byte)) : Option (List Micro) := pendingAfter i (withGrid rows boot)

/-- A command frame, written out. -/
def cFrame (b : Byte) : List Micro :=
  [.emit (.dc false), .emit (.cs false), .emit (.tx b), .emit (.cs true)]

/-- A data frame, written out. -/
def dFrame (b : Byte) : List Micro :=
  [.emit (.dc true), .emit (.cs false), .emit (.tx b), .emit (.cs true)]

/-- A bulk data frame, written out. -/
def dbFrame (bs : List Byte) : List Micro :=
  [.emit (.dc true), .emit (.cs false), .emit (.txb bs), .emit (.cs true)]

/-! ## Well-formedness: each check refuses an ill-formed term -/

theorem test_wf_duc2_refuses : (Instr.displayUpdateControl2 0xCE).wellFormed k8 = false := by decide
theorem test_wf_duc2_accepts :
    (Instr.displayUpdateControl2 0xCF).wellFormed k8 = true ∧ (Instr.displayUpdateControl2 0xC7).wellFormed k8 = true :=
  by decide
theorem test_wf_bw_plane_refuses_short : (Instr.writeRamBw [0xFF]).wellFormed k8 = false := by decide
theorem test_wf_red_plane_refuses_long : (Instr.writeRamRed [1, 2, 3]).wellFormed k8 = false := by decide
theorem test_wf_lut_refuses_short : (Instr.writeLut [0x11]).wellFormed k8 = false := by decide
theorem test_wf_plane_and_lut_accept :
    (Instr.writeRamBw [1, 2]).wellFormed k8 = true ∧ (Instr.writeRamRed [1, 2]).wellFormed k8 = true ∧
    (Instr.writeLut [1, 2]).wellFormed k8 = true := by decide

/-! ## Decoding: words written out from the formats -/

/-- 30_encoding R66 with 95_test_vectors T21 to T29a. -/
theorem test_decode_operations :
    [0b00000001, 0b00000010, 0b01000010, 0b00000011, 0b00010011, 0b00000100, 0b00010100, 0b00000101, 0b00000110,
      0b00001000, 0b00011000, 0b00001001].map decodeWord =
    [.reset, .init false, .init true, .displayFrame1B, .displayFrame4L, .clear1B, .clear4L, .sleep, .waitIdle,
      .encode1B, .encode4L, .derivePlanes] := by decide

/-- Ignored bits, 95_test_vectors T24, T25, T27. -/
theorem test_decode_ignored_bits :
    [0x52, 0x22, 0x43, 0x31, 0x79, 0x58].map decodeWord =
    [.init true, .init false, .displayFrame1B, .reset, .derivePlanes, .encode4L] := by decide

/-- 95_test_vectors T29b. -/
theorem test_decode_malformed :
    [0x23, 0x33, 0x24, 0x34, 0x28, 0x38].map decodeWord =
    [.displayFrameBadMode, .displayFrameBadMode, .clearBadMode, .clearBadMode, .encodeBadMode, .encodeBadMode] := by
  decide

/-- 95_test_vectors T29c, T29d. -/
theorem test_decode_reserved :
    [0x00, 0x07, 0x0A, 0x0B, 0x0C, 0x0D, 0x0E, 0x0F, 0x1B, 0x81, 0xA3, 0xFF].map decodeWord =
    [.reservedOpc0, .reservedOpc7, .reservedOpcA, .reservedOpcB, .reservedOpcC, .reservedOpcD, .reservedOpcE,
      .reservedOpcF, .reservedOpcB, .reservedRsv, .reservedRsv, .reservedRsv] := by decide

/-- The words of the table as `decodeTableWord` reads them; the `attach` input is one bit. -/
theorem test_decode_table_words :
    decodeTableWord 1 1 = some .attach ∧ decodeTableWord 8 0x01 = some .reset ∧
    decodeTableWord 8 0x80 = some .reservedRsv ∧ decodeTableWord 8 0x18 = some .encode4L := by decide

/-- What the decoder of the wire reads from a command byte and data bytes, in K8. -/
def fromWire (op : Byte) (args : List Byte) : Option Instr :=
  (decode k8 (.wire ((.cmd, op) :: args.map (fun b => (.data, b))))).toOption

/-- 95_test_vectors T20 with K8's lists: the byte traces of the commands of INIT. -/
theorem test_decode_init_commands :
    [fromWire 0x12 [], fromWire 0x46 [0xF7], fromWire 0x47 [0xF7], fromWire 0x01 [0x01, 0x00, 0x00],
      fromWire 0x03 [0x00], fromWire 0x04 [0x41, 0xA8, 0x32], fromWire 0x11 [0x03], fromWire 0x3C [0x03],
      fromWire 0x0C [0xAE, 0xC7, 0xC3, 0xC0, 0xC0], fromWire 0x18 [0x80], fromWire 0x2C [0x44],
      fromWire 0x44 [0x00, 0x00, 0x07, 0x00], fromWire 0x45 [0x00, 0x00, 0x01, 0x00], fromWire 0x22 [0xCF]] =
    [some .swReset, some .autoWriteRed, some .autoWriteBw, some .gateSetting, some .gateVoltage, some .sourceVoltage,
      some .dataEntryMode, some .borderWaveform, some .boosterStrength, some .tempSensor, some .vcom,
      some .ramXWindow, some .ramYWindow, some (.displayUpdateControl2 0xCF)] := by decide

theorem test_decode_display_option :
    fromWire 0x37 [0, 0, 0, 0, 0, 0, 0, 0, 0, 0] = some (.displayOption false) ∧
    fromWire 0x37 [0, 0xFF, 0xFF, 0xFF, 0xFF, 0x4F, 0xFF, 0xFF, 0xFF, 0xFF] = some (.displayOption true) := by decide

/-- 95_test_vectors T38, T39, T43, T47, T48. -/
theorem test_decode_display_commands :
    [fromWire 0x4E [0, 0], fromWire 0x4F [0, 0], fromWire 0x24 [0x7E, 0xEF], fromWire 0x26 [0xE2, 0x3C],
      fromWire 0x32 [0x11, 0x12], fromWire 0x22 [0xC7], fromWire 0x20 [], fromWire 0x10 [0xA5]] =
    [some .setRamXCounter, some .setRamYCounter, some (.writeRamBw [0x7E, 0xEF]), some (.writeRamRed [0xE2, 0x3C]),
      some (.writeLut [0x11, 0x12]), some (.displayUpdateControl2 0xC7), some .masterActivation, some .deepSleep] := by
  decide

theorem test_decode_attach : (decode k8 .attachInput).toOption = some .attach := by decide

/-- Wrong operands, an unknown opcode, and a wire without a command byte are rejected. -/
theorem test_decode_rejects :
    fromWire 0x22 [0xC0] = none ∧ fromWire 0x24 [0x7E] = none ∧ fromWire 0x55 [] = none ∧ fromWire 0x12 [1] = none ∧
    (decode k8 (.wire [(.data, 0x12)])).toOption = none ∧
    (decode k8 (.wire [(.cmd, 0x20), (.cmd, 0x20)])).toOption = none := by decide

/-- 30_encoding R65: the encoder's words, written out. -/
theorem test_encode_words :
    [Instr.reset, .init true, .displayFrame4L, .clear4L, .encode4L, .displayFrameBadMode, .reservedRsv,
      .reservedOpcE].map (encode k8) =
    [.command 0x01, .command 0x42, .command 0x13, .command 0x14, .command 0x18, .command 0x23, .command 0x80,
      .command 0x0E] := by decide

/-! ## One instruction, one step -/

/-- 95_test_vectors T40. -/
theorem test_reset_starts :
    pendingAfter .reset asleep = some [] ∧
    pendingAfter .reset ready =
      some [.emit (.rst true), .emit (.delay 200), .emit (.rst false), .emit (.delay 5), .emit (.rst true),
        .emit (.delay 200), .write .panelKnown] := by decide

/-- 95_test_vectors T41: unattached. -/
theorem test_init_unattached : errorAfter (.init true) boot = some .busFailure := by decide

/-- 41_protocol_driver R132: the preference first, the list of commands, Ready last. -/
theorem test_init_starts :
    pendingAfter (.init true) ready = some
      [.write (.preferFast true),
       .emit (.rst true), .emit (.delay 200), .emit (.rst false), .emit (.delay 5), .emit (.rst true),
       .emit (.delay 200), .write .panelKnown,
       .call .swReset, .emit (.delay 300), .call .autoWriteRed, .poll, .call .autoWriteBw, .poll, .call .gateSetting,
       .call .gateVoltage, .call .sourceVoltage, .call .dataEntryMode, .call .borderWaveform, .call .boosterStrength,
       .call .tempSensor, .call .vcom, .call (.displayOption true), .call .ramXWindow, .call .ramYWindow,
       .call (.displayUpdateControl2 0xCF), .write .ready] := by decide

/-- 95_test_vectors T43. -/
theorem test_display1_starts :
    pendingAfter .displayFrame1B (withFrame .oneBit [0x7E, 0xEF] ready) = some
      [.call .setRamXCounter, .call .setRamYCounter, .call (.writeRamBw [0x7E, 0xEF]), .call (.writeLut [0x11, 0x12]),
       .call .masterActivation, .poll, .write .refreshed, .write .consumed] := by decide

/-- 95_test_vectors T49b: asleep; T49a: no frame. -/
theorem test_display1_stops :
    errorAfter .displayFrame1B asleep = some .notReady ∧
    refusalOf (exec .displayFrame1B ready) = some .frameTagMismatch := by decide

/-- 95_test_vectors T47 without the second counter set. -/
theorem test_display4_starts :
    pendingAfter .displayFrame4L (withFrame .fourLevel [0xF8, 0x58, 0x0F, 0xA5] ready) = some
      [.write (.planes [0xCC, 0x33] [0xE2, 0x3C]),
       .call .setRamXCounter, .call .setRamYCounter, .call (.writeRamBw [0xCC, 0x33]),
       .call (.writeRamRed [0xE2, 0x3C]), .call (.writeLut [0x21, 0x22]), .call (.displayUpdateControl2 0xC7),
       .call .masterActivation, .poll, .write .refreshed, .write .consumed] := by decide

/-- 41_protocol_driver R133, R134: a frame of the other mode is refused. -/
theorem test_display4_stops :
    refusalOf (exec .displayFrame4L (withFrame .oneBit [0x7E, 0xEF] ready)) = some .frameTagMismatch := by decide

/-- 95_test_vectors T44, with the fast preference choosing the table. -/
theorem test_clear1_starts :
    pendingAfter .clear1B { ready with prefFast := true } = some
      [.call .setRamXCounter, .call .setRamYCounter, .call (.writeRamBw [0xFF, 0xFF]), .call (.writeLut [0x13, 0x14]),
       .call .masterActivation, .poll, .write .refreshed] := by decide

/-- 95_test_vectors T46, with the second counter set. -/
theorem test_clear4_starts :
    pendingAfter .clear4L { ready with cfg := { k8 with recountBeforeRed := true } } = some
      [.call .setRamXCounter, .call .setRamYCounter, .call (.writeRamBw [0xFF, 0xFF]), .call .setRamXCounter,
       .call .setRamYCounter, .call (.writeRamRed [0xFF, 0xFF]), .call (.writeLut [0x21, 0x22]),
       .call (.displayUpdateControl2 0xC7), .call .masterActivation, .poll, .write .refreshed] := by decide

/-- 95_test_vectors T49b. -/
theorem test_clear_asleep :
    errorAfter .clear1B asleep = some .notReady ∧ errorAfter .clear4L asleep = some .notReady := by decide

/-- 95_test_vectors T48, with a power-off event between the command and the delay. -/
theorem test_sleep_starts :
    pendingAfter .sleep { ready with cfg := { k8 with sleepPowerOff := [.rst true] } } = some
      [.call .deepSleep, .emit (.rst true), .emit (.delay 2000), .emit .busClose, .emit (.rst false),
       .emit (.dc false), .emit .pinsRelease, .write .sleeping] := by decide

/-- 40_wire_framing R96. -/
theorem test_wait_starts : pendingAfter .waitIdle ready = some [.poll] := by decide

/-- 95_test_vectors T49. -/
theorem test_attach :
    pendingAfter .attach boot = some [.emit .busOpen, .emit .pinCfg, .write .attached] ∧
    nextOf (exec .attach ready) = some ready := by decide

/-- 95_test_vectors T50, T50c. -/
theorem test_encode1 :
    frameAfter .encode1B [[0, 1, 1, 1, 1, 1, 1, 0], [1, 1, 1, 0, 1, 1, 1, 1]] =
      some [.write (.frame .oneBit [0x7E, 0xEF])] ∧
    frameAfter .encode1B [[1, 0], [1, 1], [1, 1], [0, 1], [1, 1], [1, 1], [1, 1], [1, 0]] =
      some [.write (.frame .oneBit [0x7E, 0xEF])] := by decide +kernel

/-- 95_test_vectors T50d and 60_exceptions R172. -/
theorem test_encode1_more :
    frameAfter .encode1B [[0, 0], [1, 1], [1, 1], [0, 1], [1, 1], [1, 1], [1, 1], [1, 0]] =
      some [.write (.frame .oneBit [0x7E, 0x6F])] ∧
    errorAfter .encode1B (withGrid [[1, 1, 1], [1, 1, 1], [1, 1, 1]] boot) = some .dimensionMismatch := by
  decide +kernel

/-- 95_test_vectors T51, T52. -/
theorem test_encode4 :
    frameAfter .encode4L [[0xFF, 0xC0, 0x80, 0, 0x40, 0x7F, 0xBF, 0x3F], [0, 0, 0xFF, 0xFF, 0x80, 0x80, 0x40, 0x40]] =
      some [.write (.frame .fourLevel [0xF8, 0x58, 0x0F, 0xA5])] ∧
    frameAfter .encode4L
        [[0, 0xFF], [0, 0xC0], [0xFF, 0x80], [0xFF, 0], [0x80, 0x40], [0x80, 0x7F], [0x40, 0xBF], [0x40, 0x3F]] =
      some [.write (.frame .fourLevel [0xF8, 0x58, 0x0F, 0xA5])] := by decide +kernel

/-- 10_state R21: an ENCODE before the grid is written is refused. -/
theorem test_encode4_stops : refusalOf (exec .encode4L ready) = some .gridUnwritten := by decide

/-- 95_test_vectors T53. -/
theorem test_derive :
    pendingAfter .derivePlanes (withFrame .fourLevel [0xF8, 0x58, 0x0F, 0xA5] boot) =
      some [.write (.planes [0xCC, 0x33] [0xE2, 0x3C])] ∧
    (applyWrite (.planes [0xCC, 0x33] [0xE2, 0x3C]) (withFrame .fourLevel [0xF8, 0x58, 0x0F, 0xA5] boot)).plLen = 2 := by
  decide

/-- 95_test_vectors T29b: whatever the other bits, and before the DriverState is read. -/
theorem test_bad_mode :
    [Instr.displayFrameBadMode, .clearBadMode, .encodeBadMode].map (fun i => errorAfter i asleep) =
      [some .invalidMode, some .invalidMode, some .invalidMode] := by decide

/-- 95_test_vectors T29c, T29d. -/
theorem test_reserved :
    ([0x80, 0x00, 0x07, 0x0A, 0x0B, 0x0C, 0x0D, 0x0E, 0x0F].map fun w => errorAfter (decodeWord w) asleep) =
      List.replicate 9 (some .invalidCommand) := by decide

/-- 95_test_vectors T29e. -/
theorem test_busy_ignores_words :
    [0x01, 0x02, 0x03, 0x08, 0x23, 0x80].map (fun w => nextOf (exec (decodeWord w) (running ready))) =
      List.replicate 6 (some (running ready)) := by decide

/-! The frames of the panel commands (95_test_vectors T20, T30 to T34, T38, T39, T48). -/

theorem test_emit_init_commands_1 :
    [Instr.swReset, .autoWriteRed, .autoWriteBw, .gateSetting, .gateVoltage].map (pendingAfter · (running ready)) =
    [some (cFrame 0x12), some (cFrame 0x46 ++ dFrame 0xF7), some (cFrame 0x47 ++ dFrame 0xF7),
      some (cFrame 0x01 ++ dFrame 0x01 ++ dFrame 0x00 ++ dFrame 0x00), some (cFrame 0x03 ++ dFrame 0x00)] := by decide

theorem test_emit_init_commands_2 :
    [Instr.sourceVoltage, .dataEntryMode, .borderWaveform, .boosterStrength, .tempSensor, .vcom].map
      (pendingAfter · (running ready)) =
    [some (cFrame 0x04 ++ dFrame 0x41 ++ dFrame 0xA8 ++ dFrame 0x32), some (cFrame 0x11 ++ dFrame 0x03),
      some (cFrame 0x3C ++ dFrame 0x03),
      some (cFrame 0x0C ++ dFrame 0xAE ++ dFrame 0xC7 ++ dFrame 0xC3 ++ dFrame 0xC0 ++ dFrame 0xC0),
      some (cFrame 0x18 ++ dFrame 0x80), some (cFrame 0x2C ++ dFrame 0x44)] := by decide

theorem test_emit_init_commands_3 :
    [Instr.displayOption false, .ramXWindow, .ramYWindow, .displayUpdateControl2 0xCF].map
      (pendingAfter · (running ready)) =
    [some (cFrame 0x37 ++ (List.replicate 10 (dFrame 0x00)).flatten),
      some (cFrame 0x44 ++ dFrame 0x00 ++ dFrame 0x00 ++ dFrame 0x07 ++ dFrame 0x00),
      some (cFrame 0x45 ++ dFrame 0x00 ++ dFrame 0x00 ++ dFrame 0x01 ++ dFrame 0x00),
      some (cFrame 0x22 ++ dFrame 0xCF)] := by decide

theorem test_emit_display_commands :
    [Instr.setRamXCounter, .setRamYCounter, .writeRamBw [0x7E, 0xEF], .writeRamRed [0xE2, 0x3C],
      .writeLut [0x11, 0x12], .masterActivation, .deepSleep].map (pendingAfter · (running ready)) =
    [some (cFrame 0x4E ++ dFrame 0x00 ++ dFrame 0x00), some (cFrame 0x4F ++ dFrame 0x00 ++ dFrame 0x00),
      some (cFrame 0x24 ++ dbFrame [0x7E, 0xEF]), some (cFrame 0x26 ++ dbFrame [0xE2, 0x3C]),
      some (cFrame 0x32 ++ dFrame 0x11 ++ dFrame 0x12), some (cFrame 0x20), some (cFrame 0x10 ++ dFrame 0xA5)] := by
  decide

theorem test_emit_outside_operation : refusalOf (exec .swReset ready) = some .outsideOperation := by decide

/-! ## The step and the ports -/

/-- The state after one input. -/
def after (i : Input) (s : State) : Option State := nextOf (step { s with inputs := [i] })

/-- 00_scope R8: one event; 40_wire_framing R90: the pin follows. -/
theorem test_step_event :
    (after (.tick false false) { ready with seq := .busy .reset 0 false [.emit (.rst true)] }).map
      (fun t => (t.trace, t.rstO, t.seq)) = some ([.rst true], some true, .busy .reset 1 true []) := by decide

/-- 40_wire_framing R96: a busy sample is followed by a delay and another sample. -/
theorem test_step_poll :
    (after (.tick true false) { ready with seq := .busy .waitIdle 0 false [.poll] }).map pendingOf =
      some [.emit (.delay 10), .poll] ∧
    (after (.tick false false) { ready with seq := .busy .waitIdle 0 false [.poll] }).map pendingOf = some [] := by
  decide

/-- 95_test_vectors T39a: the failing event is not recorded. -/
theorem test_step_failure :
    (after (.tick false true) { ready with seq := .busy .reset 2 true [.emit (.tx 0x12)] }).map
      (fun t => (t.trace, t.err, t.panelUndef, t.seq, t.done)) = some ([], .busFailure, true, .idle, true) := by decide

/-- 10_state R27: `STATUS` of K8 with a FourLevel frame, Ready and attached. -/
theorem test_status_read :
    (after (.hostRead 0x04) (withFrame .fourLevel [1, 2, 3, 4] ready)).map State.hRdata = some 0b0110110 := by decide

/-- 10_state R27: the map ends at 0x28. -/
theorem test_unmapped_register :
    faultOf (step { ready with inputs := [.hostRead 0x2C] }) = some (.unmappedRegister 0x2C) := by decide

/-- 20_memory R40: `FB` has `ceil(8/4) * 2 = 4` bytes. -/
theorem test_memory_capacity :
    faultOf (step { ready with inputs := [.memRead .fb 4] }) = some (.beyondCapacity .fb 4) := by decide

theorem test_fetch_word_runs :
    (nextOf (step (ready.withFetchWord 8 0x06))).map pendingOf = some [.poll] ∧
    (nextOf (step (boot.withFetchWord 1 1))).map pendingOf =
      some [.emit .busOpen, .emit .pinCfg, .write .attached] := by decide

/-- 20_memory R47 on the trace of 95_test_vectors T43. -/
theorem test_ram_image :
    ramImage 0x24 (commandEvents 0x4E [0, 0] ++ planeEvents 0x24 [0x7E, 0xEF] ++ commandEvents 0x32 [0x11, 0x12]) =
      some [0x7E, 0xEF] := by decide

theorem test_memory_write_sorted :
    Memory.write (Memory.write (Memory.write [] 5 1) 2 7) 5 9 = [(2, 7), (5, 9)] := by decide

/-! ## Witnesses: concrete states and operands that meet the hypotheses of the obligations -/

/-- The state of an outcome, where it has one. -/
def stateOf (o : Outcome) : State := (nextOf o).getD boot

theorem next_stateOf {o : Outcome} (h : (nextOf o).isSome = true) : o = .next (stateOf o) := by
  cases o <;> simp_all [nextOf, stateOf]

/-- K8 Ready with the frame of 95_test_vectors T43. -/
def frame1 : State := withFrame .oneBit [0x7E, 0xEF] ready

/-- K8 Ready with the frame of 95_test_vectors T47. -/
def frame4 : State := withFrame .fourLevel [0xF8, 0x58, 0x0F, 0xA5] ready

/-- The grid of 95_test_vectors T51. -/
def gridDirect : State :=
  withGrid [[0xFF, 0xC0, 0x80, 0, 0x40, 0x7F, 0xBF, 0x3F], [0, 0, 0xFF, 0xFF, 0x80, 0x80, 0x40, 0x40]] boot

/-- The grid of 95_test_vectors T52. -/
def gridTurned : State :=
  withGrid [[0, 0xFF], [0, 0xC0], [0xFF, 0x80], [0xFF, 0], [0x80, 0x40], [0x80, 0x7F], [0x40, 0xBF], [0x40, 0x3F]] boot

/-- An operation in progress with the given elements left. -/
def midway (op : Instr) (rest : List Micro) (s : State) : State := { s with seq := .busy op 3 true rest }

theorem witness_DecodeOfEncodeIsIdentity :
    k8.Admitted ∧ (Instr.writeRamBw [0x7E, 0xEF]).wellFormed k8 = true ∧ (Instr.reservedOpcF).wellFormed k8 = true := by
  decide

theorem witness_UnusedWordBitsAreIgnored :
    [0x71, 0x72, 0x43, 0x53, 0x44, 0x54, 0x75, 0x76, 0x48, 0x58, 0x79].map
      (fun w : Byte => (w.getLsbD 7, w.extractLsb' 0 4, w.extractLsb' 4 2)) =
    [(false, 0x1, 3), (false, 0x2, 3), (false, 0x3, 0), (false, 0x3, 1), (false, 0x4, 0), (false, 0x4, 1),
      (false, 0x5, 3), (false, 0x6, 3), (false, 0x8, 0), (false, 0x8, 1), (false, 0x9, 3)] := by decide

theorem witness_EmittedBytesAreTheEncoding :
    isPanelCommand .swReset = true ∧ isPanelCommand (.writeLut []) = true := by decide

theorem witness_StepRunsDecodedInstruction_command :
    ∃ (s : State) (d : BitVec 32) (rest : List Input) (i : Instr),
      s.inputs = .hostWrite 0 d :: rest ∧ s.seq = .idle ∧ decode s.cfg (.command (commandOf d)) = .ok i ∧
      i.wellFormed s.cfg = true :=
  ⟨{ ready with inputs := [.hostWrite 0 0xFFFFFF42] }, 0xFFFFFF42, [], .init true, rfl, rfl, rfl, rfl⟩

theorem witness_StepRunsDecodedInstruction_attach :
    ∃ (s : State) (rest : List Input) (i : Instr),
      s.inputs = .attach :: rest ∧ decode s.cfg .attachInput = .ok i :=
  ⟨{ boot with inputs := [.attach] }, [], .attach, rfl, rfl⟩

theorem witness_StepRunsDecodedInstruction_call :
    ∃ (s : State) (rest : List Input) (more : List Micro),
      s.inputs = .tick false true :: rest ∧ s.seq = .busy (.init false) 3 true (.call .swReset :: more) :=
  ⟨{ midway (.init false) [.call .swReset] ready with inputs := [.tick false true] }, [], [], rfl, rfl⟩

theorem witness_IdleStepChangesOnlyDone : boot.inputs = [] ∧ boot.seq = .idle := by decide

theorem witness_ResetDrivesThePulse : ready.seq = .idle ∧ ready.attached = true := by decide

theorem witness_InitRunsTheFixedSequence :
    ({ asleep with attached := true } : State).seq = .idle ∧ ({ asleep with attached := true } : State).attached = true :=
  by decide

theorem witness_DisplayFrame1BShowsTheFrame :
    frame1.seq = .idle ∧ frame1.dstate ≠ .sleeping ∧ frame1.fbValid = true ∧ frame1.fbMode = .oneBit ∧
    frame1.attached = true := by decide

theorem witness_DisplayFrame1BShowsTheFrame_nested :
    ({ frame1 with dstate := .uninitialized } : State).dstate ≠ .sleeping ∧
    ({ frame1 with dstate := .uninitialized } : State).fbValid = true := by decide

theorem witness_DisplayFrame4LShowsBothPlanes :
    frame4.seq = .idle ∧ frame4.dstate ≠ .sleeping ∧ frame4.fbValid = true ∧ frame4.fbMode = .fourLevel ∧
    frame4.attached = true := by decide

theorem witness_Clear1BShowsWhite : ready.seq = .idle ∧ ready.dstate ≠ .sleeping ∧ ready.attached = true := by decide

theorem witness_Clear4LShowsWhiteTwice :
    ({ boot with attached := true } : State).seq = .idle ∧ ({ boot with attached := true } : State).dstate ≠ .sleeping ∧
    ({ boot with attached := true } : State).attached = true := by decide

theorem witness_SleepReleasesBusAndPins : frame1.seq = .idle ∧ frame1.attached = true := by decide

theorem witness_WaitIdleDelaysOncePerBusySample : frame4.seq = .idle ∧ frame4.attached = true := by decide

theorem witness_WaitIdleHasNoTimeout :
    (midway .waitIdle [.poll] ready).seq = .busy .waitIdle 3 true (.poll :: []) := by decide

theorem witness_AttachClaimsBusAndPins :
    (boot.seq = .idle ∧ boot.attached = false) ∧ (ready.seq ≠ .idle ∨ ready.attached = true) ∧
    ((running boot).seq ≠ .idle ∨ (running boot).attached = true) := by decide

theorem witness_AttachThenInitWakes : asleep.seq = .idle ∧ asleep.dstate = .sleeping ∧ asleep.attached = false := by
  decide

theorem witness_PanelCommandsEmitTheirFrames :
    isPanelCommand .deepSleep = true ∧ (midway .sleep [] ready).seq = .busy .sleep 3 true [] := by decide

theorem witness_PanelCommandsStopOutsideAnOperation : isPanelCommand .vcom = true ∧ boot.seq = .idle := by decide

theorem witness_PanelGridReadsTheInput :
    (gridWritten gridDirect .direct = true ∧ 7 < gridDirect.cfg.w ∧ 1 < gridDirect.cfg.h) ∧
    (gridWritten gridTurned .transposed = true ∧ 7 < gridTurned.cfg.w ∧ 1 < gridTurned.cfg.h) ∧
    gridWritten boot .direct = false := by decide +kernel

theorem witness_Encode1BWritesTheFrame :
    gridTurned.cfg.Admitted ∧ gridTurned.seq = .idle ∧ gridTurned.imgWSet = true ∧ gridTurned.imgHSet = true ∧
    orientation gridTurned.cfg gridTurned.imgW.toNat gridTurned.imgH.toNat = some .transposed ∧
    gridWritten gridTurned .transposed = true := by decide +kernel

theorem witness_Encode4LWritesTheFrame :
    gridDirect.cfg.Admitted ∧ gridDirect.seq = .idle ∧ gridDirect.imgWSet = true ∧ gridDirect.imgHSet = true ∧
    orientation gridDirect.cfg gridDirect.imgW.toNat gridDirect.imgH.toNat = some .direct ∧
    gridWritten gridDirect .direct = true := by decide +kernel

theorem witness_DerivePlanesWritesBothPlanes :
    frame4.seq = .idle ∧ frame4.fbValid = true ∧ frame4.fbMode = .fourLevel := by decide

theorem witness_Pack1ClearsExactlyTheBlackPixels :
    k8.Admitted ∧ (1 < ceilDiv k8.w 8 * k8.h ∧ 7 ≤ 7) ∧ (0 < ceilDiv k8.w 8 * k8.h ∧ 0 ≤ 7) := by decide

theorem witness_Pack4KeepsTheTopTwoBits :
    k8.Admitted ∧ (1 < k8.h ∧ 1 < k8.w / 4 ∧ 3 ≤ 3) ∧ (0 < k8.h ∧ 0 < k8.w / 4 ∧ 0 ≤ 3) := by decide

theorem witness_DeriveSplitsTheCodes :
    ([0xF8, 0x58, 0x0F, 0xA5] : List Byte).length % 2 = 0 ∧ 1 < ([0xF8, 0x58, 0x0F, 0xA5] : List Byte).length / 2 ∧
    7 ≤ 7 := by decide

theorem witness_UniformGridGivesUniformPlanes : k8.Admitted := by decide

theorem witness_RotationLaw :
    gridTurned.cfg.Admitted ∧ gridDirect.cfg = gridTurned.cfg ∧ gridTurned.cfg.w ≠ gridTurned.cfg.h ∧
    gridTurned.seq = .idle ∧ gridDirect.seq = .idle ∧ gridTurned.imgWSet = true ∧ gridTurned.imgHSet = true ∧
    gridDirect.imgWSet = true ∧ gridDirect.imgHSet = true ∧
    gridTurned.imgW.toNat = gridTurned.cfg.h ∧ gridTurned.imgH.toNat = gridTurned.cfg.w ∧
    gridDirect.imgW.toNat = gridTurned.cfg.w ∧ gridDirect.imgH.toNat = gridTurned.cfg.h ∧
    (∀ x < gridTurned.cfg.h, ∀ y < gridTurned.cfg.w, (gridTurned.img.read (imgAddr x y)).isSome = true) ∧
    (∀ px < gridTurned.cfg.w, ∀ py < gridTurned.cfg.h,
      gridDirect.img.read (imgAddr px py) = gridTurned.img.read (imgAddr (gridTurned.cfg.h - 1 - py) px)) := by
  decide +kernel

theorem witness_EncodeDependsOnTheGridAlone :
    ∃ s s' t : State, s'.cfg.w = s.cfg.w ∧ s'.cfg.h = s.cfg.h ∧ s'.img = s.img ∧ s'.imgW = s.imgW ∧ s'.imgH = s.imgH ∧
      s'.imgWSet = s.imgWSet ∧ s'.imgHSet = s.imgHSet ∧ s.seq = .idle ∧ s'.seq = .idle ∧ s ≠ s' ∧
      exec .encode4L s = .next t ∧ busyOp t = true :=
  ⟨gridDirect, { gridDirect with attached := true, dstate := .sleeping, prefFast := true },
    stateOf (exec .encode4L gridDirect), rfl, rfl, rfl, rfl, rfl, rfl, rfl, rfl, rfl, by decide +kernel,
    next_stateOf (by decide +kernel), by decide +kernel⟩

theorem witness_MalformedModeRaisesInvalidMode :
    ((0x33 : Byte).getLsbD 7 = false ∧ (0x33 : Byte).getLsbD 5 = true ∧ (0x33 : Byte).extractLsb' 0 4 = 0x3#4) ∧
    ((0x64 : Byte).getLsbD 7 = false ∧ (0x64 : Byte).getLsbD 5 = true ∧ (0x64 : Byte).extractLsb' 0 4 = 0x4#4) ∧
    ((0x28 : Byte).getLsbD 7 = false ∧ (0x28 : Byte).getLsbD 5 = true ∧ (0x28 : Byte).extractLsb' 0 4 = 0x8#4) ∧
    asleep.seq = .idle := by decide

theorem witness_ReservedWordRaisesInvalidCommand :
    boot.seq = .idle ∧ (0xA3 : Byte).getLsbD 7 = true ∧ (0x70 : Byte).extractLsb' 0 4 = 0x0#4 ∧
    (0x57 : Byte).extractLsb' 0 4 = 0x7#4 ∧ 0xA ≤ ((0x0A : Byte).extractLsb' 0 4).toNat ∧
    0xA ≤ ((0x0F : Byte).extractLsb' 0 4).toNat := by decide

theorem witness_SleepingRaisesNotReady : asleep.seq = .idle ∧ asleep.dstate = .sleeping := by decide

theorem witness_SleepingRaisesNotReady_awake :
    ∃ t, ready.seq = .idle ∧ ready.dstate ≠ .sleeping ∧ exec .clear1B ready = .next t :=
  ⟨stateOf (exec .clear1B ready), by decide, by decide, next_stateOf (by decide)⟩

/-- A grid whose width is the panel's and whose height is not. -/
def gridWrong : State := { boot with imgW := 8, imgH := 3, imgWSet := true, imgHSet := true }

theorem witness_WrongGridRaisesDimensionMismatch :
    gridWrong.seq = .idle ∧ gridWrong.imgWSet = true ∧ gridWrong.imgHSet = true ∧
    ¬(gridWrong.imgW.toNat = gridWrong.cfg.w ∧ gridWrong.imgH.toNat = gridWrong.cfg.h) ∧
    ¬(gridWrong.imgW.toNat = gridWrong.cfg.h ∧ gridWrong.imgH.toNat = gridWrong.cfg.w) := by decide

theorem witness_WrongGridRaisesDimensionMismatch_others :
    ∃ t, Instr.clear1B ≠ .encode1B ∧ Instr.clear1B ≠ .encode4L ∧
      exec .clear1B { ready with err := .dimensionMismatch } = .next t ∧ t.err = .dimensionMismatch :=
  ⟨stateOf (exec .clear1B { ready with err := .dimensionMismatch }), by decide, by decide,
    next_stateOf (by decide), by decide⟩

/-- K8 unattached with a OneBit frame. -/
def bootFrame1 : State := withFrame .oneBit [0x7E, 0xEF] boot

/-- K8 unattached with a FourLevel frame. -/
def bootFrame4 : State := withFrame .fourLevel [1, 2, 3, 4] boot

theorem witness_UnattachedRaisesBusFailure :
    (boot.seq = .idle ∧ boot.attached = false ∧ boot.dstate ≠ .sleeping) ∧
    (bootFrame1.seq = .idle ∧ bootFrame1.attached = false ∧ bootFrame1.dstate ≠ .sleeping ∧
      bootFrame1.fbValid = true ∧ bootFrame1.fbMode = .oneBit) ∧
    (bootFrame4.seq = .idle ∧ bootFrame4.attached = false ∧ bootFrame4.dstate ≠ .sleeping ∧
      bootFrame4.fbValid = true ∧ bootFrame4.fbMode = .fourLevel) := by
  decide

theorem witness_FailingEventEndsTheOperation :
    (∃ (s : State) (rest : List Input) (e : WireEvent), s.inputs = .tick false true :: rest ∧
      (∀ ms, e ≠ .delay ms) ∧ s.seq = .busy .reset 3 true (.emit e :: [])) ∧
    (∃ (s : State) (rest : List Input), s.inputs = .tick false true :: rest ∧
      s.seq = .busy .waitIdle 3 true (.poll :: [])) ∧
    (∃ (s : State) (rest : List Input), s.inputs = .tick false true :: rest ∧
      s.seq = .busy .reset 3 true (.emit (.delay 5) :: [])) :=
  ⟨⟨{ midway .reset [.emit (.rst false)] ready with inputs := [.tick false true] }, [], .rst false, rfl,
      (fun _ h => WireEvent.noConfusion h), rfl⟩,
    ⟨{ midway .waitIdle [.poll] ready with inputs := [.tick false true] }, [], rfl, rfl⟩,
    ⟨{ midway .reset [.emit (.delay 5)] ready with inputs := [.tick false true] }, [], rfl, rfl⟩⟩

theorem witness_WrongFrameTagStops :
    (ready.seq = .idle ∧ ready.dstate ≠ .sleeping ∧ ¬(ready.fbValid = true ∧ ready.fbMode = .oneBit)) ∧
    (frame1.seq = .idle ∧ frame1.dstate ≠ .sleeping ∧ ¬(frame1.fbValid = true ∧ frame1.fbMode = .fourLevel)) := by
  decide

/-- The direct grid without its last element. -/
def gridHole : State := { gridDirect with img := gridDirect.img.dropLast }

/-- The transposed grid without its last element. -/
def gridTurnedHole : State := { gridTurned with img := gridTurned.img.dropLast }

theorem witness_EncodeBeforeDimensionsStops :
    (boot.seq = .idle ∧ ¬(boot.imgWSet = true ∧ boot.imgHSet = true)) ∧
    (gridHole.seq = .idle ∧ gridHole.imgW.toNat = gridHole.cfg.w ∧ gridHole.imgH.toNat = gridHole.cfg.h ∧
      7 < gridHole.cfg.w ∧ 1 < gridHole.cfg.h ∧ gridHole.img.read (imgAddr 7 1) = none) ∧
    (gridTurnedHole.seq = .idle ∧ gridTurnedHole.imgW.toNat = gridTurnedHole.cfg.h ∧
      gridTurnedHole.imgH.toNat = gridTurnedHole.cfg.w ∧ gridTurnedHole.cfg.w ≠ gridTurnedHole.cfg.h ∧
      1 < gridTurnedHole.cfg.h ∧ 7 < gridTurnedHole.cfg.w ∧ gridTurnedHole.img.read (imgAddr 1 7) = none) := by
  decide +kernel

/-! Whole runs: K8 with empty operand lists and waveform tables, which keeps them short. -/

/-- K8 with empty lists. -/
def bare : Config :=
  { k8 with
    arg :=
      { autoWriteRed := [], autoWriteBw := [], gateSetting := [], gateVoltage := [], sourceVoltage := [],
        dataEntryMode := [], borderWaveform := [], boosterStrength := [], tempSensor := [], vcom := [],
        displayOptionFull := [], displayOptionFast := [1], ramXWindow := [], ramYWindow := [], xOrigin := [],
        yOrigin := [] }
    lutLen := 0
    lutOneBitFull := []
    lutOneBitFast := []
    lutFourLevelFull := []
    lutFourLevelFast := [] }

/-- Samples: the first wait of a run may see a busy one. -/
def levels (busyFrom busyTo : Nat) (n : Nat) : List Level :=
  (List.range n).map (fun k => decide (busyFrom ≤ k ∧ k < busyTo))

/-- The run of an instruction's operation from a state. -/
def wholeRun (i : Instr) (s : State) (ls : List Level) : Outcome :=
  Host.Core.run Sys2Proof.core ls.length { stateOf (exec i s) with inputs := unfailingTurns ls }

/-- Whether an outcome is a next state with an idle sequencer. -/
def endsIdle (o : Outcome) : Bool := ((nextOf o).map (fun s => !busyOp s)).getD false

theorem endsIdle_elim {o : Outcome} (h : endsIdle o = true) : o = .next (stateOf o) ∧ (stateOf o).seq = .idle := by
  cases o with
  | next s => cases hs : s.seq <;> simp_all [endsIdle, nextOf, stateOf, busyOp]
  | fault f => simp [endsIdle, nextOf] at h
  | refused r => simp [endsIdle, nextOf] at h

/-- A whole run that ends idle meets the hypotheses of the statements about whole runs. -/
theorem wholeRun_witness (i : Instr) (s : State) (ls : List Level) (hs : s.seq = .idle)
    (hn : (nextOf (exec i s)).isSome = true) (hb : busyOp (stateOf (exec i s)) = true)
    (he : endsIdle (wholeRun i s ls) = true) :
    ∃ t u : State, s.seq = .idle ∧ exec i s = .next t ∧ busyOp t = true ∧
      Host.Core.run Sys2Proof.core ls.length { t with inputs := unfailingTurns ls } = .next u ∧ u.seq = .idle :=
  ⟨stateOf (exec i s), stateOf (wholeRun i s ls), hs, next_stateOf hn, hb, endsIdle_elim he⟩

/-- K8 with empty lists, Ready. -/
def bareReady : State := { State.resetWith bare with attached := true, dstate := .ready }

theorem witness_InitByteTraceIgnoresThePanel :
    ∃ t u : State, bareReady.seq = .idle ∧ exec (.init false) bareReady = .next t ∧ busyOp t = true ∧
      Host.Core.run Sys2Proof.core (levels 0 30 120).length { t with inputs := unfailingTurns (levels 0 30 120) } =
        .next u ∧ u.seq = .idle :=
  wholeRun_witness _ _ _ rfl (by decide +kernel) (by decide +kernel) (by decide +kernel)

theorem witness_ShowByteTracesIgnoreThePanel_displayFrame1B :
    ∃ t u : State, (withFrame .oneBit [0x7E, 0xEF] bareReady).seq = .idle ∧
      exec .displayFrame1B (withFrame .oneBit [0x7E, 0xEF] bareReady) = .next t ∧ busyOp t = true ∧
      Host.Core.run Sys2Proof.core (levels 0 40 60).length { t with inputs := unfailingTurns (levels 0 40 60) } =
        .next u ∧ u.seq = .idle :=
  wholeRun_witness _ _ _ rfl (by decide +kernel) (by decide +kernel) (by decide +kernel)

theorem witness_ShowByteTracesIgnoreThePanel_displayFrame4L :
    ∃ t u : State, (withFrame .fourLevel [1, 2, 3, 4] bareReady).seq = .idle ∧
      exec .displayFrame4L (withFrame .fourLevel [1, 2, 3, 4] bareReady) = .next t ∧ busyOp t = true ∧
      Host.Core.run Sys2Proof.core (levels 0 1 60).length { t with inputs := unfailingTurns (levels 0 1 60) } =
        .next u ∧ u.seq = .idle :=
  wholeRun_witness _ _ _ rfl (by decide +kernel) (by decide +kernel) (by decide +kernel)

theorem witness_ShowByteTracesIgnoreThePanel_clear1B :
    ∃ t u : State, ({ bareReady with dstate := .uninitialized } : State).seq = .idle ∧
      exec .clear1B { bareReady with dstate := .uninitialized } = .next t ∧ busyOp t = true ∧
      Host.Core.run Sys2Proof.core (levels 0 1 160).length { t with inputs := unfailingTurns (levels 0 1 160) } =
        .next u ∧ u.seq = .idle :=
  wholeRun_witness _ _ _ rfl (by decide +kernel) (by decide +kernel) (by decide +kernel)

theorem witness_ShowByteTracesIgnoreThePanel_clear4L :
    ∃ t u : State, bareReady.seq = .idle ∧ exec .clear4L bareReady = .next t ∧ busyOp t = true ∧
      Host.Core.run Sys2Proof.core (levels 0 1 60).length { t with inputs := unfailingTurns (levels 0 1 60) } =
        .next u ∧ u.seq = .idle :=
  wholeRun_witness _ _ _ rfl (by decide +kernel) (by decide +kernel) (by decide +kernel)

theorem witness_DisplayedPlanesHoldTheFrame :
    (withFrame .oneBit [0x7E, 0xEF] bareReady).cfg.Admitted ∧
    (∃ t u : State, (withFrame .oneBit [0x7E, 0xEF] bareReady).seq = .idle ∧
      exec .displayFrame1B (withFrame .oneBit [0x7E, 0xEF] bareReady) = .next t ∧ busyOp t = true ∧
      Host.Core.run Sys2Proof.core (levels 0 40 60).length { t with inputs := unfailingTurns (levels 0 40 60) } =
        .next u ∧ u.seq = .idle) ∧
    (withFrame .fourLevel [1, 2, 3, 4] bareReady).cfg.Admitted ∧
    (∃ t u : State, (withFrame .fourLevel [1, 2, 3, 4] bareReady).seq = .idle ∧
      exec .displayFrame4L (withFrame .fourLevel [1, 2, 3, 4] bareReady) = .next t ∧ busyOp t = true ∧
      Host.Core.run Sys2Proof.core (levels 0 1 60).length { t with inputs := unfailingTurns (levels 0 1 60) } =
        .next u ∧ u.seq = .idle) :=
  ⟨by decide, witness_ShowByteTracesIgnoreThePanel_displayFrame1B, by decide,
    witness_ShowByteTracesIgnoreThePanel_displayFrame4L⟩

theorem witness_DisplayedPlanesHoldTheFrame_bytes :
    3 < frame4.fbLen.toNat ∧ frame4.fb.read 3 = some 0xA5 := by decide

theorem witness_DisplayPseudoOperationShowsTheGrid :
    let s := { gridTurned with attached := true }
    s.cfg.Admitted ∧ s.seq = .idle ∧ s.dstate ≠ .sleeping ∧ s.attached = true ∧ s.imgWSet = true ∧ s.imgHSet = true ∧
      orientation s.cfg s.imgW.toNat s.imgH.toNat = some .transposed ∧ gridWritten s .transposed = true := by
  decide +kernel

/-- 70_reset_and_hazards R198: between two operations of a program the run has not ended. -/
theorem test_run_not_ended_between_operations :
    runEnded { ready with inputs := [.tick false false, .hostWrite 0 0x03] } = false ∧
    runEnded { ready with inputs := [.hostRead 0x08, .tick false false] } = true ∧
    runEnded (running ready) = false := by decide

/-- A run in which the capability fails every event from turn `k` on. -/
def failingFrom (k n : Nat) : List (Level × Bool) := (List.range n).map (fun j => (false, decide (k ≤ j)))

/-- A run that ends idle with an error meets the hypotheses of the statement about operations that fail. -/
theorem failingRun_witness (i : Instr) (s : State) (choices : List (Level × Bool)) (hs : s.seq = .idle)
    (hn : (nextOf (exec i s)).isSome = true) (hb : busyOp (stateOf (exec i s)) = true)
    (he : endsIdle (Host.Core.run Sys2Proof.core choices.length
      { stateOf (exec i s) with inputs := turnsOf choices }) = true)
    (hf : (stateOf (Host.Core.run Sys2Proof.core choices.length
      { stateOf (exec i s) with inputs := turnsOf choices })).err = .busFailure) :
    ∃ t u : State, s.seq = .idle ∧ exec i s = .next t ∧ busyOp t = true ∧
      Host.Core.run Sys2Proof.core choices.length { t with inputs := turnsOf choices } = .next u ∧ u.seq = .idle ∧
      u.err = .busFailure :=
  ⟨stateOf (exec i s), _, hs, next_stateOf hn, hb, (endsIdle_elim he).1, (endsIdle_elim he).2, hf⟩

/-- For every operation that performs events, a run that fails after 12 turns, where it has so many, or at its last. -/
theorem witness_FailingEventEndsTheOperation_runs :
    ∀ x ∈ [(Instr.reset, ready, 4), (.init true, ready, 12), (.sleep, ready, 12), (.waitIdle, ready, 0),
        (.attach, boot, 1), (.displayFrame1B, frame1, 12), (.displayFrame4L, frame4, 12), (.clear1B, ready, 12),
        (.clear4L, { ready with dstate := .uninitialized }, 12)],
      ∃ t u : State, x.2.1.seq = .idle ∧ exec x.1 x.2.1 = .next t ∧ busyOp t = true ∧
        Host.Core.run Sys2Proof.core (failingFrom x.2.2 20).length { t with inputs := turnsOf (failingFrom x.2.2 20) } =
          .next u ∧ u.seq = .idle ∧ u.err = .busFailure := by
  intro x hx
  refine failingRun_witness x.1 x.2.1 _ ?_ ?_ ?_ ?_ ?_ <;> revert x <;> decide +kernel

/-- 95_test_vectors T42, with the failure at the first event: the argument is latched, DSTATE is not. -/
theorem test_init_failure :
    (nextOf (Host.Core.run Sys2Proof.core 3
      { stateOf (exec (.init true) { ready with dstate := .uninitialized }) with
        inputs := turnsOf (failingFrom 0 3) })).map
      (fun u => (u.prefFast, u.dstate, u.err, u.trace, u.panelUndef)) =
    some (true, .uninitialized, .busFailure, [], false) := by decide +kernel

/-! Invariant and whole-machine rules. -/

theorem inv_ready : Inv ready :=
  ⟨by decide, by decide, by decide, by decide, by decide, by decide, by decide, by decide, by decide, by decide,
    by decide, trivial⟩

theorem inv_asleep : Inv asleep :=
  ⟨by decide, by decide, by decide, by decide, by decide, by decide, by decide, by decide, by decide, by decide,
    by decide, trivial⟩

theorem inv_frame4 : Inv frame4 :=
  ⟨by decide, by decide, by decide, by decide, by decide, by decide, by decide, by decide, by decide, by decide,
    by decide, trivial⟩

/-- One step of a turn of the sequencer, failing or not, from a state. -/
def turned (f : Bool) (s : State) : State := { s with inputs := [.tick false f] }

theorem witness_EveryStepKeepsTheInvariant :
    ∃ t, Inv { frame4 with inputs := [.hostWrite 0 0x13] } ∧
      step { frame4 with inputs := [.hostWrite 0 0x13] } = .next t ∧ busyOp t = true :=
  ⟨stateOf (step { frame4 with inputs := [.hostWrite 0 0x13] }), { inv_frame4 with sequencer := trivial },
    next_stateOf (by decide +kernel), by decide +kernel⟩

theorem inv_sleep_last : Inv (turned false (midway .sleep [.write .sleeping] ready)) :=
  { inv_ready with
    sequencer := ⟨by simp [turned, midway, microSound], rfl, fun _ _ => rfl, by decide, by decide⟩ }

theorem inv_init_last : Inv (turned false (midway (.init true) [.write .ready] { asleep with attached := true })) :=
  { inv_asleep with
    released := by decide
    sequencer := ⟨by simp [turned, midway, microSound, mayInitialise], rfl, fun _ _ => rfl, by decide, by decide⟩ }

theorem inv_attach_last : Inv (turned false (midway .attach [.write .attached] asleep)) :=
  { inv_asleep with
    sequencer := ⟨by simp [turned, midway, microSound], rfl, fun _ _ => rfl, by decide, by decide⟩ }

theorem inv_prefer : Inv (turned false (midway (.init true) [.write (.preferFast true)] ready)) :=
  { inv_ready with
    sequencer := ⟨by simp [turned, midway, microSound], rfl, fun _ _ => rfl, by decide, by decide⟩ }

theorem witness_SequencerNeverStops_turn :
    Inv (turned true ready) ∧ ∃ l f, (turned true ready).inputs.head? = some (.tick l f) :=
  ⟨{ inv_ready with sequencer := trivial }, false, true, rfl⟩

theorem witness_SequencerNeverStops_inputs :
    (Inv ready ∧ ready.inputs = []) ∧
    (Inv { ready with inputs := [.attach] } ∧
      ({ ready with inputs := [.attach] } : State).inputs.head? = some .attach) ∧
    (Inv { ready with inputs := [.blockReset] } ∧
      ({ ready with inputs := [.blockReset] } : State).inputs.head? = some .blockReset) ∧
    (Inv { ready with inputs := [.imgWrite 0xFFFF 0xFFFF 1] } ∧
      ({ ready with inputs := [.imgWrite 0xFFFF 0xFFFF 1] } : State).inputs.head? =
        some (.imgWrite 0xFFFF 0xFFFF 1)) :=
  ⟨⟨inv_ready, rfl⟩, ⟨{ inv_ready with sequencer := trivial }, rfl⟩, ⟨{ inv_ready with sequencer := trivial }, rfl⟩,
    ⟨{ inv_ready with sequencer := trivial }, rfl⟩⟩

theorem witness_DriverStateTransitions_sleeping :
    ∃ s t : State, Inv s ∧ step s = .next t ∧ t.dstate ≠ s.dstate ∧ s.inputs.head? ≠ some .blockReset ∧
      t.dstate = .sleeping :=
  ⟨_, stateOf (step (turned false (midway .sleep [.write .sleeping] ready))), inv_sleep_last,
    next_stateOf (by decide), by decide, by decide, by decide⟩

theorem witness_DriverStateTransitions_ready :
    ∃ s t : State, Inv s ∧ step s = .next t ∧ t.dstate ≠ s.dstate ∧ s.inputs.head? ≠ some .blockReset ∧
      t.dstate = .ready ∧ s.dstate = .sleeping :=
  ⟨_, stateOf (step (turned false (midway (.init true) [.write .ready] { asleep with attached := true }))),
    inv_init_last, next_stateOf (by decide), by decide, by decide, by decide, by decide⟩

theorem witness_PreferenceAndAttachmentWriters_prefer :
    ∃ s t : State, Inv s ∧ step s = .next t ∧ s.inputs.head? ≠ some .blockReset ∧ t.prefFast ≠ s.prefFast :=
  ⟨_, stateOf (step (turned false (midway (.init true) [.write (.preferFast true)] ready))), inv_prefer,
    next_stateOf (by decide), by decide, by decide⟩

theorem witness_PreferenceAndAttachmentWriters_rise :
    ∃ s t : State, Inv s ∧ step s = .next t ∧ s.inputs.head? ≠ some .blockReset ∧ s.attached = false ∧
      t.attached = true :=
  ⟨_, stateOf (step (turned false (midway .attach [.write .attached] asleep))), inv_attach_last,
    next_stateOf (by decide), by decide, by decide, by decide⟩

theorem witness_PreferenceAndAttachmentWriters_fall :
    ∃ s t : State, Inv s ∧ step s = .next t ∧ s.inputs.head? ≠ some .blockReset ∧ s.attached = true ∧
      t.attached = false :=
  ⟨_, stateOf (step (turned false (midway .sleep [.write .sleeping] ready))), inv_sleep_last,
    next_stateOf (by decide), by decide, by decide, by decide⟩

theorem witness_PanelUndefWriters_rise :
    ∃ s t : State, step s = .next t ∧ s.panelUndef = false ∧ t.panelUndef = true :=
  ⟨turned true (midway .reset [.emit (.rst true)] ready),
    stateOf (step (turned true (midway .reset [.emit (.rst true)] ready))), next_stateOf (by decide), by decide,
    by decide⟩

theorem witness_PanelUndefWriters_fall :
    ∃ s t : State, step s = .next t ∧ s.panelUndef = true ∧ t.panelUndef = false :=
  ⟨turned false (midway .reset [.write .panelKnown] { ready with panelUndef := true }),
    stateOf (step (turned false (midway .reset [.write .panelKnown] { ready with panelUndef := true }))),
    next_stateOf (by decide), by decide, by decide⟩

theorem witness_OneEventPerStep_start :
    ∃ s t : State, step s = .next t ∧ s.inputs.head? ≠ some .blockReset ∧ s.seq = .idle ∧ busyOp t = true :=
  ⟨{ ready with inputs := [.hostWrite 0 0x01] }, stateOf (step { ready with inputs := [.hostWrite 0 0x01] }),
    next_stateOf (by decide), by decide, by decide, by decide⟩

theorem witness_OneEventPerStep_write :
    ∃ s t : State, step s = .next t ∧ s.inputs.head? ≠ some .blockReset ∧ t.trace = s.trace ∧
      t.seq = .busy .reset 4 true [] :=
  ⟨turned false (midway .reset [.write .panelKnown] ready),
    stateOf (step (turned false (midway .reset [.write .panelKnown] ready))), next_stateOf (by decide), by decide,
    by decide, by decide⟩

theorem witness_OneEventPerStep :
    ∃ s t : State, step s = .next t ∧ s.inputs.head? ≠ some .blockReset ∧ t.trace ≠ s.trace :=
  ⟨turned false (midway .reset [.emit (.rst true)] ready),
    stateOf (step (turned false (midway .reset [.emit (.rst true)] ready))), next_stateOf (by decide), by decide,
    by decide⟩

theorem witness_OnlyTheHostWritesTheGrid :
    ∃ s t : State, step s = .next t ∧ s.inputs.head? ≠ some .blockReset ∧
      (∀ d, s.inputs.head? ≠ some (.hostWrite 0x14 d)) ∧ (∀ d, s.inputs.head? ≠ some (.hostWrite 0x18 d)) ∧
      (∀ x y v, s.inputs.head? ≠ some (.imgWrite x y v)) :=
  ⟨turned false (midway .encode1B [.write (.frame .oneBit [1, 2])] gridDirect),
    stateOf (step (turned false (midway .encode1B [.write (.frame .oneBit [1, 2])] gridDirect))),
    next_stateOf (by decide +kernel), by decide, by simp [turned], by simp [turned], by simp [turned]⟩

theorem witness_OnlyTheHostWritesTheGrid_command :
    ∃ s t : State, step s = .next t ∧ s.inputs.head? = some (.hostWrite 0 0x08) ∧ busyOp t = true :=
  ⟨{ gridDirect with inputs := [.hostWrite 0 0x08] }, stateOf (step { gridDirect with inputs := [.hostWrite 0 0x08] }),
    next_stateOf (by decide +kernel), by decide, by decide +kernel⟩

theorem witness_RefreshRegistersAndConfiguration :
    ∃ t, step { ready with inputs := [.hostWrite 0x10 9] } = .next t ∧ t.partialRefreshLimit = 9 :=
  ⟨stateOf (step { ready with inputs := [.hostWrite 0x10 9] }), next_stateOf (by decide), by decide⟩

/-! Ports and reset. -/

theorem witness_BusyIgnoresHostWrites :
    (running ready).seq ≠ .idle ∧ (regAt 0x00).isSome = true ∧ (regAt 0x28).isSome = true ∧
    isPanelCommand .reset = false := by decide

theorem witness_StatusBits :
    boot.dstate = .uninitialized ∧ ready.dstate = .ready ∧ asleep.dstate = .sleeping ∧ boot.err = .none ∧
    ([ErrorCode.invalidMode, .dimensionMismatch, .notReady, .busFailure, .invalidCommand].map
      (fun e => errPort (raise e boot))) = [1, 2, 3, 4, 5] := by decide

theorem witness_HostReadsAnswerRegisters_err :
    ({ raise .invalidCommand ready with inputs := [.hostRead 0x08] } : State).inputs = .hostRead 0x08 :: [] ∧
    (raise .invalidCommand ready).seq = .idle ∧ (raise .invalidCommand ready).err = .invalidCommand := by decide

theorem witness_HostReadsAnswerRegisters :
    ({ ready with inputs := [.hostRead 0x00] } : State).inputs = .hostRead 0x00 :: [] ∧
    ({ ready with inputs := [.hostRead 0x28] } : State).inputs = .hostRead 0x28 :: [] ∧
    ({ running ready with inputs := [.hostRead 0x04] } : State).inputs = .hostRead 0x04 :: [] ∧
    ready.seq = .idle := by decide

theorem witness_HostWritesSetTheirRegisters :
    ({ gridWrong with inputs := [.hostWrite 0x10 0xFFFF0008] } : State).inputs = .hostWrite 0x10 0xFFFF0008 :: [] ∧
    ({ gridWrong with inputs := [.hostWrite 0x14 8] } : State).inputs = .hostWrite 0x14 8 :: [] ∧
    ({ gridWrong with inputs := [.hostWrite 0x18 2] } : State).inputs = .hostWrite 0x18 2 :: [] ∧
    ({ gridWrong with inputs := [.hostWrite 0x04 2] } : State).inputs = .hostWrite 0x04 2 :: [] ∧
    gridWrong.seq = .idle := by decide

theorem witness_AccessesOutsideTheMapFault :
    (∀ k ≤ 10, (0x2C : BitVec 6) ≠ BitVec.ofNat 6 (4 * k)) ∧ (∀ k ≤ 10, (0x01 : BitVec 6) ≠ BitVec.ofNat 6 (4 * k)) ∧
    ({ ready with inputs := [.hostRead 0x2C] } : State).inputs = .hostRead 0x2C :: [] ∧
    ({ ready with inputs := [.hostWrite 0x01 5] } : State).inputs = .hostWrite 0x01 5 :: [] ∧
    ({ ready with inputs := [.memRead .fb 4] } : State).inputs = .memRead .fb 4 :: [] ∧
    ready.cfg.packedLen ≤ (4 : BitVec 32).toNat ∧
    ({ ready with inputs := [.memRead .plBw 2] } : State).inputs = .memRead .plBw 2 :: [] ∧
    ({ ready with inputs := [.memRead .plRed 2] } : State).inputs = .memRead .plRed 2 :: [] ∧
    ready.cfg.planeLen ≤ (2 : BitVec 32).toNat := by decide

/-- A state whose planes hold what DERIVE_PLANES made of `frame4`. -/
def derived : State := applyWrite (.planes [0xCC, 0x33] [0xE2, 0x3C]) frame4

theorem witness_MemoryPortsAnswerBytes :
    derived.seq = .idle ∧
    ((3 : BitVec 32).toNat < derived.cfg.packedLen ∧ (3 : BitVec 32).toNat < derived.fbLen.toNat ∧
      derived.fb.read (3 : BitVec 32).toNat = some 0xA5) ∧
    ((1 : BitVec 32).toNat < derived.cfg.planeLen ∧ (1 : BitVec 32).toNat < derived.plLen.toNat ∧
      derived.plBw.read (1 : BitVec 32).toNat = some 0x33) ∧
    ((0 : BitVec 32).toNat < derived.cfg.planeLen ∧ (0 : BitVec 32).toNat < derived.plLen.toNat ∧
      derived.plRed.read (0 : BitVec 32).toNat = some 0xE2) := by decide

theorem witness_GridWritesLandAtTheirCoordinates :
    gridDirect.seq = .idle ∧
    ({ gridDirect with inputs := [.imgWrite 7 1 0x55] } : State).inputs = .imgWrite 7 1 0x55 :: [] ∧
    ((0 : BitVec 16) ≠ 7 ∨ (0 : BitVec 16) ≠ 1) := by decide

theorem witness_BlockResetFromEveryState :
    ({ running frame4 with inputs := [.blockReset] } : State).inputs = .blockReset :: [] := by decide

end Sys2Proof.Tests
end

section
/-! PROOFS. What one step can do, said once: a turn of the sequencer, a host access, and what each does to SEQ and to
the wire trace. O49 is read off the last. -/

namespace Sys2Proof.Machine

open Sys2Proof.Safety

/-! ### A turn of the sequencer -/

/-- Everything a turn that ends in a next state can have done (00_scope R8; 10_state R20; 60_exceptions R174 (b)). -/
inductive Turn (l : Level) (f : Bool) (s : State) : State → Prop where
  | idle (h : s.seq = .idle) : Turn l f s s
  | ended {op : Instr} {idx : Nat} {touched : Bool} (h : s.seq = .busy op idx touched []) : Turn l f s (complete s)
  | emitted {op : Instr} {idx : Nat} {touched : Bool} {e : WireEvent} {rest : List Micro}
      (h : s.seq = .busy op idx touched (.emit e :: rest)) (hf : f = true → canFail e = false) :
      Turn l f s (record e { s with seq := .busy op (idx + 1) true rest })
  | emitFailed {op : Instr} {idx : Nat} {touched : Bool} {e : WireEvent} {rest : List Micro}
      (h : s.seq = .busy op idx touched (.emit e :: rest)) (hf : f = true) (he : canFail e = true) :
      Turn l f s (failEvent touched s)
  | sampled {op : Instr} {idx : Nat} {touched : Bool} {rest : List Micro}
      (h : s.seq = .busy op idx touched (.poll :: rest)) (hf : f = false) :
      Turn l f s (record (.busy l) { s with seq := .busy op (idx + 1) true (pollAgain s.cfg l rest) })
  | sampleFailed {op : Instr} {idx : Nat} {touched : Bool} {rest : List Micro}
      (h : s.seq = .busy op idx touched (.poll :: rest)) (hf : f = true) : Turn l f s (failEvent touched s)
  | wrote {op : Instr} {idx : Nat} {touched : Bool} {w : StateWrite} {rest : List Micro}
      (h : s.seq = .busy op idx touched (.write w :: rest)) :
      Turn l f s (applyWrite w { s with seq := .busy op (idx + 1) touched rest })
  | called {op : Instr} {idx : Nat} {touched : Bool} {i : Instr} {rest : List Micro}
      (h : s.seq = .busy op idx touched (.call i :: rest)) (hi : isPanelCommand i = true) :
      Turn l f s { s with seq := .busy op idx touched ((panelEvents s.cfg i).map Micro.emit ++ rest) }
  | skipped {op : Instr} {idx : Nat} {touched : Bool} {i : Instr} {rest : List Micro}
      (h : s.seq = .busy op idx touched (.call i :: rest)) (hi : isPanelCommand i = false) :
      Turn l f s { s with seq := .busy op idx touched rest }

/-- What is not a panel command is ignored while an operation runs (30_encoding R65). -/
theorem exec_host_busy (i : Instr) {s : State} (hi : isPanelCommand i = false) (h : s.seq ≠ .idle) :
    exec i s = .next s := by
  have answer := exec_hostAnswer i s hi
  generalize exec i s = o at answer
  cases answer with
  | ignored => rfl
  | raised _ hidle => exact absurd hidle h
  | started _ _ hidle => exact absurd hidle h
  | refused _ hidle => exact absurd hidle h

theorem advance_turn {l : Level} {f : Bool} {s t : State} (h : advance l f s = .next t) : Turn l f s t := by
  cases hs : s.seq with
  | idle =>
    rw [advance_idle l f hs] at h
    cases h
    exact .idle hs
  | busy op idx touched more =>
    cases more with
    | nil =>
      rw [advance_end l f hs] at h
      cases h
      exact .ended hs
    | cons m rest =>
      cases m with
      | emit e =>
        simp only [advance, hs] at h
        split at h <;> rename_i hfail <;> cases h
        · obtain ⟨hf, he⟩ := Bool.and_eq_true_iff.mp hfail
          exact .emitFailed hs hf he
        · exact .emitted hs (by simpa using hfail)
      | poll =>
        cases f with
        | true =>
          simp only [advance, hs, if_true] at h
          cases h
          exact .sampleFailed hs rfl
        | false =>
          rw [advance_poll l hs] at h
          cases h
          exact .sampled hs rfl
      | write w =>
        rw [advance_write l f hs] at h
        cases h
        exact .wrote hs
      | call i =>
        rw [advance_call l f hs] at h
        cases hi : isPanelCommand i with
        | true =>
          rw [exec_panel_busy i hi rfl] at h
          cases h
          exact .called hs hi
        | false =>
          rw [exec_host_busy i hi (by simp)] at h
          cases h
          exact .skipped hs hi

/-! ### A host access -/

theorem byMode_not_panel {a b c : Instr} (mode : BitVec 2) (ha : isPanelCommand a = false)
    (hb : isPanelCommand b = false) (hc : isPanelCommand c = false) : isPanelCommand (byMode mode a b c) = false := by
  simp [byMode, apply_ite isPanelCommand, ha, hb, hc]

/-- A command word is no panel command: those are words of the wire (30_encoding R66, R69). -/
@[simp] theorem decodeWord_not_panel (c : Byte) : isPanelCommand (decodeWord c) = false := by
  unfold decodeWord
  split
  · rfl
  · split
    case h_4 | h_5 | h_9 => exact byMode_not_panel _ rfl rfl rfl
    all_goals rfl

/-- What a write on the register port can have done (10_state R27; log 17). -/
theorem hostWrite_next {a : BitVec 6} {d : BitVec 32} {s t : State} (h : hostWrite a d s = .next t) :
    t = s ∨ s.seq = .idle ∧
      ((regAt a = some .cmd ∧ exec (decodeWord (commandOf d)) s = .next t) ∨
        (regAt a = some .partialRefreshLimit ∧ t = { s with partialRefreshLimit := d.extractLsb' 0 16 }) ∨
        (regAt a = some .imgW ∧ t = { s with imgW := d.extractLsb' 0 16, imgWSet := true }) ∨
        (regAt a = some .imgH ∧ t = { s with imgH := d.extractLsb' 0 16, imgHSet := true })) := by
  unfold hostWrite at h
  cases ha : regAt a with
  | none => simp [ha] at h
  | some r =>
    by_cases hidle : s.seq = .idle
    · simp only [ha, busyOp_eq_false hidle, Bool.false_eq_true, if_false] at h
      cases r with
      | cmd => exact .inr ⟨hidle, .inl ⟨rfl, h⟩⟩
      | partialRefreshLimit => cases h; exact .inr ⟨hidle, .inr (.inl ⟨rfl, rfl⟩)⟩
      | imgW => cases h; exact .inr ⟨hidle, .inr (.inr (.inl ⟨rfl, rfl⟩))⟩
      | imgH => cases h; exact .inr ⟨hidle, .inr (.inr (.inr ⟨rfl, rfl⟩))⟩
      | _ => cases h; exact .inl rfl
    · simp only [ha, (busyOp_iff_not_idle s).mpr hidle, if_true] at h
      cases h
      exact .inl rfl

/-- A read on the register port sets the read data, and may draw a free value (log 7). -/
theorem hostRead_next {a : BitVec 6} {s t : State} (h : hostRead a s = .next t) :
    ∃ w n, t = { s with hRdata := w, freeCount := n } := by
  unfold hostRead at h
  split at h
  · cases h
  · split at h <;> cases h <;> exact ⟨_, _, rfl⟩

theorem imgWrite_next {x y : BitVec 16} {v : Byte} {s t : State} (h : imgWrite x y v s = .next t) :
    t = s ∨ s.seq = .idle ∧ t = { s with img := s.img.write (imgAddr x.toNat y.toNat) v } := by
  unfold imgWrite at h
  split at h <;> rename_i hbusy <;> cases h
  · exact .inl rfl
  · exact .inr ⟨by simpa using hbusy, rfl⟩

/-- A read on a memory port sets that port's read data, and may draw a free value (log 7). -/
theorem memRead_next {p : ReadPort} {i : BitVec 32} {s t : State} (h : memRead p i s = .next t) :
    ∃ b n, t = portAnswer p b { s with freeCount := n } := by
  unfold memRead at h
  split at h
  · split at h <;> cases h
    · exact ⟨_, s.freeCount, rfl⟩
    · exact ⟨_, _, rfl⟩
  · cases h

@[simp] theorem portAnswer_seq (p : ReadPort) (b : Byte) (s : State) : (portAnswer p b s).seq = s.seq := by
  cases p <;> rfl

@[simp] theorem portAnswer_trace (p : ReadPort) (b : Byte) (s : State) : (portAnswer p b s).trace = s.trace := by
  cases p <;> rfl

/-! ### SEQ and the wire trace -/

/-- How SEQ moves where no event is performed: the operation ends or none runs, one starts, the list that is left
changes, or one state write is counted (10_state R20). -/
inductive SilentMove : Seq → Seq → Prop where
  | idle (q : Seq) : SilentMove q .idle
  | started (op : Instr) (rest : List Micro) : SilentMove .idle (.busy op 0 false rest)
  | moved (op : Instr) (idx : Nat) (touched : Bool) (more more' : List Micro) :
      SilentMove (.busy op idx touched more) (.busy op idx touched more')
  | counted (op : Instr) (idx : Nat) (touched : Bool) (more more' : List Micro) :
      SilentMove (.busy op idx touched more) (.busy op (idx + 1) touched more')

/-- How SEQ moves by a wire event: it is counted, and `touched` is set (10_state R28). -/
inductive EventMove : Seq → Seq → Prop where
  | mk (op : Instr) (idx : Nat) (touched : Bool) (more more' : List Micro) :
      EventMove (.busy op idx touched more) (.busy op (idx + 1) true more')

/-- `t` comes after `s` without a wire event. -/
def Silent (s t : State) : Prop := t.trace = s.trace ∧ SilentMove s.seq t.seq

/-- `t` comes after `s` by one wire event. -/
def Emits (s t : State) : Prop := ∃ e, t.trace = s.trace ++ [e] ∧ EventMove s.seq t.seq

theorem SilentMove.refl (q : Seq) : SilentMove q q := by
  cases q with
  | idle => exact .idle _
  | busy op idx touched more => exact .moved op idx touched more more

theorem Silent.of_eq {s t : State} (htrace : t.trace = s.trace) (hseq : t.seq = s.seq) : Silent s t :=
  ⟨htrace, hseq ▸ SilentMove.refl _⟩

theorem EventMove.busyOp {s : State} {q : Seq} (h : EventMove s.seq q) : busyOp s = true := by
  rw [busyOp_iff_not_idle]
  intro hidle
  rw [hidle] at h
  cases h

/-- What an operation of the host answers is never an event: the sequencer performs them later (30_encoding R74). -/
theorem exec_host_silent {i : Instr} {s t : State} (hi : isPanelCommand i = false) (h : exec i s = .next t) :
    Silent s t := by
  have answer := exec_hostAnswer i s hi
  rw [h] at answer
  cases answer with
  | ignored => exact .of_eq rfl rfl
  | raised e _ => exact ⟨raise_trace e s, .idle _⟩
  | started op rest hidle => exact ⟨rfl, hidle ▸ .started op rest⟩

theorem Turn.silent_or_emits {l : Level} {f : Bool} {s t : State} (h : Turn l f s t) : Silent s t ∨ Emits s t := by
  cases h with
  | idle => exact .inl (.of_eq rfl rfl)
  | ended => exact .inl ⟨complete_trace s, .idle _⟩
  | emitted h => exact .inr ⟨_, record_trace _ _, h ▸ .mk ..⟩
  | emitFailed => exact .inl ⟨failEvent_trace _ s, .idle _⟩
  | sampled h => exact .inr ⟨_, record_trace _ _, h ▸ .mk ..⟩
  | sampleFailed => exact .inl ⟨failEvent_trace _ s, .idle _⟩
  | wrote h =>
    refine .inl ⟨applyWrite_trace _ _, ?_⟩
    rw [applyWrite_seq, h]
    exact .counted ..
  | called h => exact .inl ⟨rfl, h ▸ .moved ..⟩
  | skipped h => exact .inl ⟨rfl, h ▸ .moved ..⟩

theorem hostWrite_silent {a : BitVec 6} {d : BitVec 32} {s t : State} (h : hostWrite a d s = .next t) :
    Silent s t := by
  obtain rfl | ⟨-, ⟨-, hexec⟩ | ⟨-, rfl⟩ | ⟨-, rfl⟩ | ⟨-, rfl⟩⟩ := hostWrite_next h
  · exact .of_eq rfl rfl
  · exact exec_host_silent (decodeWord_not_panel _) hexec
  all_goals exact .of_eq rfl rfl

theorem hostRead_silent {a : BitVec 6} {s t : State} (h : hostRead a s = .next t) : Silent s t := by
  obtain ⟨w, n, rfl⟩ := hostRead_next h
  exact .of_eq rfl rfl

theorem imgWrite_silent {x y : BitVec 16} {v : Byte} {s t : State} (h : imgWrite x y v s = .next t) :
    Silent s t := by
  obtain rfl | ⟨-, rfl⟩ := imgWrite_next h <;> exact .of_eq rfl rfl

theorem memRead_silent {p : ReadPort} {i : BitVec 32} {s t : State} (h : memRead p i s = .next t) : Silent s t := by
  obtain ⟨b, n, rfl⟩ := memRead_next h
  exact .of_eq (portAnswer_trace p b _) (portAnswer_seq p b _)

/-- The turn the sequencer takes when no input is left is a turn with free choices (log 6). -/
theorem advanceFree_silent_or_emits {s t : State} (h : advanceFree s = .next t) : Silent s t ∨ Emits s t := by
  unfold advanceFree at h
  split at h
  · exact (advance_turn h).silent_or_emits
  · cases h
    exact .inl (.of_eq rfl rfl)

/-- Of the inputs but block reset, only a turn of the sequencer can perform an event. -/
theorem react_silent_or_emits {i : Input} {s t : State} (h : react i s = .next t) (hreset : i ≠ .blockReset) :
    Silent s t ∨ (Emits s t ∧ ∃ l f, i = .tick l f) := by
  cases i with
  | tick l f => exact (advance_turn h).silent_or_emits.imp_right (⟨·, l, f, rfl⟩)
  | hostWrite a d => exact .inl (hostWrite_silent h)
  | hostRead a => exact .inl (hostRead_silent h)
  | imgWrite x y v => exact .inl (imgWrite_silent h)
  | memRead p j => exact .inl (memRead_silent h)
  | attach => exact .inl (exec_host_silent (i := .attach) rfl h)
  | blockReset => exact absurd rfl hreset

/-- Block reset apart, a step performs no event, or it is the sequencer's turn and performs one (00_scope R8). -/
theorem step_silent_or_emits {s t : State} (h : step s = .next t) (hreset : s.inputs.head? ≠ some .blockReset) :
    Silent s t ∨ (Emits s t ∧ (s.inputs = [] ∨ ∃ l f, s.inputs.head? = some (.tick l f))) := by
  cases hin : s.inputs with
  | nil =>
    simp only [step, hin] at h
    exact (advanceFree_silent_or_emits h).imp_right (⟨·, .inl rfl⟩)
  | cons i rest =>
    rw [step_of_input hin] at h
    rw [hin] at hreset
    refine (react_silent_or_emits h (by simpa using hreset)).imp_right fun ⟨hemits, l, f, hi⟩ => ?_
    exact ⟨hemits, .inr ⟨l, f, congrArg some hi⟩⟩

end Sys2Proof.Machine

section

open Sys2Proof Sys2Proof.Machine

/-- Settles O49, from the one statement of what a step does to SEQ and the trace. -/
theorem oneEventPerStep : Obligations.OneEventPerStep := by
  intro s t hstep hreset
  obtain ⟨htrace, hmove⟩ | ⟨⟨e, htrace, hmove⟩, hturn⟩ := step_silent_or_emits hstep hreset
  · refine ⟨.inl htrace, fun op idx' touched' more' hseq => ?_⟩
    rw [hseq] at hmove
    generalize s.seq = q at hmove ⊢
    cases hmove with
    | started => exact .inl ⟨rfl, rfl, rfl, htrace⟩
    | moved => exact .inr ⟨_, _, _, rfl, .inl ⟨htrace, rfl, .inl rfl⟩⟩
    | counted => exact .inr ⟨_, _, _, rfl, .inl ⟨htrace, rfl, .inr rfl⟩⟩
  · refine ⟨.inr ⟨e, htrace, hmove.busyOp, hturn⟩, fun op idx' touched' more' hseq => ?_⟩
    rw [hseq] at hmove
    generalize s.seq = q at hmove ⊢
    cases hmove
    exact .inr ⟨_, _, _, rfl, .inr ⟨e, htrace, rfl, rfl⟩⟩

end

end

section
/-! PROOFS. What a step does, said once for every input: which input it takes and what the machine's answer to it can
be. The ghost, the grid and the refresh registers (O48, O50, O51) are read off it. -/

namespace Sys2Proof.Machine

open Sys2Proof.Safety

/-! ### The reaction to an input -/

/-- Everything the machine can answer to an input with a next state (10_state R27, R29, R30; log 6). -/
inductive Reaction (s : State) : Input → State → Prop where
  | turn {l : Level} {f : Bool} {t : State} (h : Turn l f s t) : Reaction s (.tick l f) t
  | ignored (i : Input) : Reaction s i s
  | operated (i : Input) {op : Instr} {t : State} (hop : isPanelCommand op = false) (h : exec op s = .next t) :
      Reaction s i t
  | limitSet {a : BitVec 6} (d : BitVec 32) (ha : regAt a = some .partialRefreshLimit) :
      Reaction s (.hostWrite a d) { s with partialRefreshLimit := d.extractLsb' 0 16 }
  | widthSet {a : BitVec 6} (d : BitVec 32) (ha : regAt a = some .imgW) :
      Reaction s (.hostWrite a d) { s with imgW := d.extractLsb' 0 16, imgWSet := true }
  | heightSet {a : BitVec 6} (d : BitVec 32) (ha : regAt a = some .imgH) :
      Reaction s (.hostWrite a d) { s with imgH := d.extractLsb' 0 16, imgHSet := true }
  | elementSet (x y : BitVec 16) (v : Byte) :
      Reaction s (.imgWrite x y v) { s with img := s.img.write (imgAddr x.toNat y.toNat) v }
  | registerRead (a : BitVec 6) (w : BitVec 32) (n : Nat) :
      Reaction s (.hostRead a) { s with hRdata := w, freeCount := n }
  | byteRead (p : ReadPort) (j : BitVec 32) (b : Byte) (n : Nat) :
      Reaction s (.memRead p j) (portAnswer p b { s with freeCount := n })
  | reset : Reaction s .blockReset (blockReset s)

theorem react_reaction {i : Input} {s t : State} (h : react i s = .next t) : Reaction s i t := by
  cases i with
  | tick l f => exact .turn (advance_turn h)
  | hostWrite a d =>
    obtain rfl | ⟨-, ⟨-, hexec⟩ | ⟨ha, rfl⟩ | ⟨ha, rfl⟩ | ⟨ha, rfl⟩⟩ := hostWrite_next h
    · exact .ignored _
    · exact .operated _ (decodeWord_not_panel _) hexec
    · exact .limitSet d ha
    · exact .widthSet d ha
    · exact .heightSet d ha
  | hostRead a =>
    obtain ⟨w, n, rfl⟩ := hostRead_next h
    exact .registerRead a w n
  | imgWrite x y v =>
    obtain rfl | ⟨-, rfl⟩ := imgWrite_next h
    · exact .ignored _
    · exact .elementSet x y v
  | memRead p j =>
    obtain ⟨b, n, rfl⟩ := memRead_next h
    exact .byteRead p j b n
  | attach => exact .operated _ (op := .attach) rfl h
  | blockReset =>
    cases h
    exact .reset

/-- The input a step takes: the first of the list, or a turn of free choices where none is left (log 6). -/
def TakenInput (s : State) (i : Input) : Prop :=
  s.inputs.head? = some i ∨ (s.inputs = [] ∧ ∃ l f, i = .tick l f)

/-- What a step hands to the reaction: the input is taken, the `done` pulse is over, and where no input is left a free
value may have been drawn (logs 6, 18). -/
def State.taken (s : State) (ins : List Input) (n : Nat) : State :=
  { s with inputs := ins, done := false, freeCount := n }

theorem step_of_no_input {s : State} (h : s.inputs = []) : step s = advanceFree { s with done := false } := by
  simp only [step, h]

theorem step_reaction {s t : State} (h : step s = .next t) :
    ∃ i ins n, TakenInput s i ∧ Reaction (s.taken ins n) i t := by
  cases hin : s.inputs with
  | nil =>
    have hfree : advanceFree { s with done := false } = .next t := (step_of_no_input hin).symm.trans h
    have hempty : TakenInput s (.tick (Config.freeBusy s.freeCount) (Config.freeFail s.freeCount)) :=
      .inr ⟨hin, _, _, rfl⟩
    unfold advanceFree at hfree
    split at hfree
    · exact ⟨_, s.inputs, s.freeCount + 1, hempty, .turn (advance_turn hfree)⟩
    · cases hfree
      exact ⟨_, s.inputs, s.freeCount, hempty, .ignored _⟩
  | cons i rest =>
    rw [step_of_input hin] at h
    exact ⟨i, rest, s.freeCount, .inl (congrArg List.head? hin), react_reaction h⟩

theorem TakenInput.head_eq {s : State} {i : Input} (h : TakenInput s i) (hi : ∀ l f, i ≠ .tick l f) :
    s.inputs.head? = some i := by
  obtain hhead | ⟨-, l, f, rfl⟩ := h
  · exact hhead
  · exact absurd rfl (hi l f)

/-! ### What an answer leaves unchanged -/

/-- An operation of the host answers with nothing changed but ERR, SEQ and `done`: everything else it does, the
sequencer does later (30_encoding R74; 60_exceptions R175). -/
theorem exec_host_next {i : Instr} {s t : State} (hi : isPanelCommand i = false) (h : exec i s = .next t) :
    ∃ e q d, t = { s with err := e, seq := q, done := d } := by
  have answer := exec_hostAnswer i s hi
  rw [h] at answer
  cases answer with
  | ignored => exact ⟨s.err, s.seq, s.done, rfl⟩
  | raised e _ => exact ⟨e, .idle, true, rfl⟩
  | started op rest _ => exact ⟨s.err, .busy op 0 false rest, s.done, rfl⟩

/-- `t` has the DriverState, the preference and the attachment of `s` (10_state R12, R15, R16). -/
structure DriverKept (s t : State) : Prop where
  dstate : t.dstate = s.dstate
  prefFast : t.prefFast = s.prefFast
  attached : t.attached = s.attached

/-- `t` comes after `s` by the state write that stands next in the sequencer. -/
def Wrote (s t : State) : Prop :=
  ∃ op idx touched w rest, s.seq = .busy op idx touched (.write w :: rest) ∧
    t = applyWrite w { s with seq := .busy op (idx + 1) touched rest }

/-- Only a state write changes the DriverState, the preference or the attachment. -/
theorem Turn.driverKept_or_wrote {l : Level} {f : Bool} {s t : State} (h : Turn l f s t) :
    DriverKept s t ∨ Wrote s t := by
  cases h with
  | wrote h => exact .inr ⟨_, _, _, _, _, h, rfl⟩
  | _ => exact .inl ⟨rfl, rfl, rfl⟩

theorem Reaction.driverKept_or_wrote {s t : State} {i : Input} (h : Reaction s i t) (hreset : i ≠ .blockReset) :
    DriverKept s t ∨ Wrote s t := by
  cases h with
  | turn h => exact h.driverKept_or_wrote
  | operated _ hop h =>
    obtain ⟨e, q, d, rfl⟩ := exec_host_next hop h
    exact .inl ⟨rfl, rfl, rfl⟩
  | byteRead p => cases p <;> exact .inl ⟨rfl, rfl, rfl⟩
  | reset => exact absurd rfl hreset
  | _ => exact .inl ⟨rfl, rfl, rfl⟩

/-- Block reset apart, a step that changes the DriverState, the preference or the attachment performs the state write
that stands next in the sequencer. -/
theorem step_driverKept_or_wrote {s t : State} (h : step s = .next t) (hreset : s.inputs.head? ≠ some .blockReset) :
    DriverKept s t ∨ ∃ ins n, Wrote (s.taken ins n) t := by
  obtain ⟨i, ins, n, htaken, hreact⟩ := step_reaction h
  have hi : i ≠ .blockReset := by
    rintro rfl
    exact hreset (htaken.head_eq nofun)
  obtain hkept | hwrote := hreact.driverKept_or_wrote hi
  · exact .inl ⟨hkept.dstate, hkept.prefFast, hkept.attached⟩
  · exact .inr ⟨ins, n, hwrote⟩

/-- No turn of the sequencer writes the input grid or its dimensions (42_pixel_encoder R150). -/
theorem Turn.grid_kept {l : Level} {f : Bool} {s t : State} (h : Turn l f s t) :
    t.img = s.img ∧ t.imgW = s.imgW ∧ t.imgH = s.imgH ∧ t.imgWSet = s.imgWSet ∧ t.imgHSet = s.imgHSet := by
  cases h with
  | wrote h => simp
  | _ => exact ⟨rfl, rfl, rfl, rfl, rfl⟩

/-- A turn may clear the refresh counter, never count (10_state R13). -/
theorem Turn.refresh_kept {l : Level} {f : Bool} {s t : State} (h : Turn l f s t) :
    (t.refreshCnt = s.refreshCnt ∨ t.refreshCnt = 0) ∧ t.cfg = s.cfg ∧
      t.partialRefreshLimit = s.partialRefreshLimit := by
  cases h with
  | @wrote _ _ _ w _ h => exact ⟨by cases w <;> simp, by simp, by simp⟩
  | _ => exact ⟨.inl rfl, rfl, rfl⟩

/-- An operation that had performed an event ends with BusFailure, and the ghost flag is set (10_state R28). -/
def RaisesGhost (s t : State) : Prop :=
  t.panelUndef = true ∧ t.err = .busFailure ∧ t.seq = .idle ∧ ∃ op idx more, s.seq = .busy op idx true more

/-- The write that closes a reset pulse clears the ghost flag (41_protocol_driver R131). -/
def ClearsGhost (s t : State) : Prop :=
  t.panelUndef = false ∧ ∃ op idx touched more, s.seq = .busy op idx touched (.write .panelKnown :: more)

theorem failEvent_ghost {op : Instr} {idx : Nat} {touched : Bool} {more : List Micro} {s : State}
    (h : s.seq = .busy op idx touched more) :
    (failEvent touched s).panelUndef = s.panelUndef ∨ RaisesGhost s (failEvent touched s) := by
  cases touched with
  | false => exact .inl (by simp)
  | true => exact .inr ⟨by simp, rfl, rfl, _, _, _, h⟩

theorem Turn.ghost {l : Level} {f : Bool} {s t : State} (h : Turn l f s t) :
    t.panelUndef = s.panelUndef ∨ RaisesGhost s t ∨ ClearsGhost s t := by
  cases h with
  | emitFailed h => exact (failEvent_ghost h).imp_right .inl
  | sampleFailed h => exact (failEvent_ghost h).imp_right .inl
  | @wrote _ _ _ w _ h =>
    cases w with
    | panelKnown => exact .inr (.inr ⟨rfl, _, _, _, _, h⟩)
    | _ => exact .inl rfl
  | _ => exact .inl rfl

theorem Reaction.ghost {s t : State} {i : Input} (h : Reaction s i t) :
    t.panelUndef = s.panelUndef ∨ RaisesGhost s t ∨ ClearsGhost s t ∨ (i = .blockReset ∧ t.panelUndef = false) := by
  cases h with
  | turn h => exact h.ghost.imp_right (Or.imp_right .inl)
  | operated _ hop h =>
    obtain ⟨e, q, d, rfl⟩ := exec_host_next hop h
    exact .inl rfl
  | byteRead p => cases p <;> exact .inl rfl
  | reset => exact .inr (.inr (.inr ⟨rfl, rfl⟩))
  | _ => exact .inl rfl

/-! ### The addresses of the register map -/

theorem regAt_eq_limit {a : BitVec 6} (h : regAt a = some .partialRefreshLimit) : a = 0x10 := by
  revert a; decide

theorem regAt_eq_imgW {a : BitVec 6} (h : regAt a = some .imgW) : a = 0x14 := by
  revert a; decide

theorem regAt_eq_imgH {a : BitVec 6} (h : regAt a = some .imgH) : a = 0x18 := by
  revert a; decide

theorem regAt_eq_none {a : BitVec 6} (h : ∀ k ≤ 10, a ≠ BitVec.ofNat 6 (4 * k)) : regAt a = none := by
  revert a; decide

end Sys2Proof.Machine

section

open Sys2Proof Sys2Proof.Machine Sys2Proof.Safety

/-- Settles O48, from what one reaction does to the ghost. -/
theorem panelUndefWriters : Obligations.PanelUndefWriters := by
  intro s t hstep
  obtain ⟨i, ins, n, htaken, hreact⟩ := step_reaction hstep
  obtain hkept | ⟨hset, hends⟩ | ⟨hclear, hpulse⟩ | ⟨rfl, hclear⟩ := hreact.ghost
  · have hkept : t.panelUndef = s.panelUndef := hkept
    exact ⟨fun h0 h1 => by simp [hkept, h0] at h1, fun h1 h0 => by simp [hkept, h1] at h0⟩
  · exact ⟨fun _ _ => hends, fun _ h0 => by simp [hset] at h0⟩
  · exact ⟨fun _ h1 => by simp [hclear] at h1, fun _ _ => .inr hpulse⟩
  · exact ⟨fun _ h1 => by simp [hclear] at h1, fun _ _ => .inl (htaken.head_eq nofun)⟩

/-- Settles O50: the sequencer and the operations leave the grid, and each write to it has an input of its own. -/
theorem onlyTheHostWritesTheGrid : Obligations.OnlyTheHostWritesTheGrid := by
  intro s t hstep hreset hwidth hheight helement
  obtain ⟨i, ins, n, htaken, hreact⟩ := step_reaction hstep
  cases hreact with
  | turn h => exact h.grid_kept
  | operated _ hop h =>
    obtain ⟨e, q, d, rfl⟩ := exec_host_next hop h
    exact ⟨rfl, rfl, rfl, rfl, rfl⟩
  | widthSet d ha => exact absurd (regAt_eq_imgW ha ▸ htaken.head_eq nofun) (hwidth d)
  | heightSet d ha => exact absurd (regAt_eq_imgH ha ▸ htaken.head_eq nofun) (hheight d)
  | elementSet x y v => exact absurd (htaken.head_eq nofun) (helement x y v)
  | byteRead p => cases p <;> exact ⟨rfl, rfl, rfl, rfl, rfl⟩
  | reset => exact absurd (htaken.head_eq nofun) hreset
  | _ => exact ⟨rfl, rfl, rfl, rfl, rfl⟩

/-- Settles O51: only the completion of a display or clear and block reset write the counter, both with 0. -/
theorem refreshRegistersAndConfiguration : Obligations.RefreshRegistersAndConfiguration := by
  intro s t hstep
  obtain ⟨i, ins, n, htaken, hreact⟩ := step_reaction hstep
  cases hreact with
  | turn h =>
    obtain ⟨hcnt, hcfg, hlimit⟩ := h.refresh_kept
    exact ⟨hcnt, hcfg, .inl hlimit⟩
  | operated _ hop h =>
    obtain ⟨e, q, d, rfl⟩ := exec_host_next hop h
    exact ⟨.inl rfl, rfl, .inl rfl⟩
  | limitSet d ha => exact ⟨.inl rfl, rfl, .inr (.inr ⟨d, regAt_eq_limit ha ▸ htaken.head_eq nofun⟩)⟩
  | byteRead p => cases p <;> exact ⟨.inl rfl, rfl, .inl rfl⟩
  | reset => exact ⟨.inr rfl, rfl, .inr (.inl (htaken.head_eq nofun))⟩
  | _ => exact ⟨.inl rfl, rfl, .inl rfl⟩

end
end

section
/-! PROOFS. The invariant of the machine (O43, O44): what it asks of the list the sequencer has before it, that every
operation starts with such a list, and that every turn and every host access keeps it. -/

namespace Sys2Proof

/-! ### The sizes of the buffers -/

theorem Config.packedLen_eq {c : Config} (h : c.Admitted) : c.packedLen = 2 * c.planeLen := by
  obtain ⟨hw, -⟩ := h
  have hgroups : ceilDiv c.w 4 = 2 * ceilDiv c.w 8 := by unfold ceilDiv; omega
  rw [packedLen, planeLen, hgroups, Nat.mul_assoc]

theorem Config.packedLen_lt {c : Config} (h : c.Admitted) : c.packedLen < 2 ^ 32 := by
  obtain ⟨-, -, -, hw, hh, -⟩ := h
  have hgroups : ceilDiv c.w 4 ≤ 65536 := by unfold ceilDiv; omega
  calc c.packedLen ≤ 65536 * c.h := Nat.mul_le_mul_right _ hgroups
    _ < 2 ^ 32 := by omega

theorem Config.frameLen_le {c : Config} (h : c.Admitted) (m : ColorMode) : c.frameLen m ≤ c.packedLen := by
  cases m with
  | oneBit =>
    rw [packedLen_eq h]
    exact Nat.le_mul_of_pos_left _ Nat.two_pos
  | fourLevel => exact le_rfl

theorem Config.lut_length {c : Config} (h : c.Admitted) (m : ColorMode) (fast : Bool) :
    (c.lut m fast).length = c.lutLen := by
  obtain ⟨-, -, -, -, -, -, h1, h2, h3, h4, -⟩ := h
  cases m <;> cases fast <;> assumption

theorem Config.reference_admitted : Config.reference.Admitted := by
  refine ⟨by decide, by decide, by decide, by decide, by decide, by decide, ?_, ?_, ?_, ?_, by decide, by decide⟩ <;>
    simp [reference]

namespace Machine

open Sys2Proof.Safety

theorem length_pack1Pixel (w : Nat) (p : Nat → Nat → Byte) (py : Nat) (out : List Byte) (px : Nat) :
    (pack1Pixel w p py out px).length = out.length := by
  unfold pack1Pixel
  split <;> simp

theorem length_foldl_eq {α : Type} {f : List Byte → α → List Byte} (hf : ∀ out a, (f out a).length = out.length)
    (l : List α) (out : List Byte) : (l.foldl f out).length = out.length := by
  induction l generalizing out with
  | nil => rfl
  | cons a l ih => rw [List.foldl_cons, ih, hf]

theorem length_pack1 (c : Config) (p : Nat → Nat → Byte) : (pack1 c p).length = c.planeLen := by
  unfold pack1
  rw [length_foldl_eq fun out py => length_foldl_eq (length_pack1Pixel c.w p py) _ out, List.length_replicate]

theorem length_pack4 {c : Config} (h : c.Admitted) (p : Nat → Nat → Byte) : (pack4 c p).length = c.packedLen := by
  obtain ⟨hw, -⟩ := h
  have hgroups : ceilDiv c.w 4 = c.w / 4 := by unfold ceilDiv; omega
  simp [pack4, List.length_flatMap, Config.packedLen, hgroups, Nat.mul_comm]

@[simp] theorem length_derivePlane (table : GrayLevel → Bool) (pk : List Byte) :
    (derivePlane table pk).length = pk.length / 2 := by
  simp [derivePlane]

@[simp] theorem length_frameBytes (s : State) : (frameBytes s).length = s.fbLen.toNat := by
  simp [frameBytes]

end Machine

namespace Safety

open Sys2Proof.Machine

/-! ### A sound list of pending elements -/

/-- `seqSound` over the list alone (Safety.seqSound). -/
structure PendingSound (c : Config) (attached : Bool) (d : DriverState) (op : Instr) (rest : List Micro) : Prop where
  elements : ∀ m ∈ rest, microSound c op m
  sleepingLast : nothingAfter .sleeping rest = true
  readyLast : ∀ fast, op = .init fast → nothingAfter .ready rest = true
  released : attached = false → ∀ m ∈ rest, drivesPin m = false
  awake : needsAwake op = true → d ≠ .sleeping

theorem seqSound_of_idle {s : State} (h : s.seq = .idle) : seqSound s := by
  simp only [seqSound, h]

theorem seqSound_iff_of_busy {s : State} {op : Instr} {idx : Nat} {touched : Bool} {rest : List Micro}
    (h : s.seq = .busy op idx touched rest) : seqSound s ↔ PendingSound s.cfg s.attached s.dstate op rest := by
  simp only [seqSound, h]
  exact ⟨fun ⟨h1, h2, h3, h4, h5⟩ => ⟨h1, h2, h3, h4, h5⟩, fun ⟨h1, h2, h3, h4, h5⟩ => ⟨h1, h2, h3, h4, h5⟩⟩

theorem Inv.pending {s : State} {op : Instr} {idx : Nat} {touched : Bool} {rest : List Micro} (h : Inv s)
    (hs : s.seq = .busy op idx touched rest) : PendingSound s.cfg s.attached s.dstate op rest :=
  (seqSound_iff_of_busy hs).mp h.sequencer

theorem nothingAfter_cons_self (w : StateWrite) (rest : List Micro) :
    nothingAfter w (.write w :: rest) = rest.isEmpty := by
  simp [nothingAfter]

theorem nothingAfter_cons_of_ne {w : StateWrite} {m : Micro} (h : m ≠ .write w) (rest : List Micro) :
    nothingAfter w (m :: rest) = nothingAfter w rest := by
  simp [nothingAfter, h]

theorem nothingAfter_tail {w : StateWrite} {m : Micro} {rest : List Micro} (h : nothingAfter w (m :: rest) = true) :
    nothingAfter w rest = true := by
  by_cases hm : m = .write w
  · rw [hm, nothingAfter_cons_self] at h
    rw [List.isEmpty_iff.mp h]
    rfl
  · rwa [nothingAfter_cons_of_ne hm] at h

theorem nothingAfter_append {w : StateWrite} {ms : List Micro} (h : .write w ∉ ms) (rest : List Micro) :
    nothingAfter w (ms ++ rest) = nothingAfter w rest := by
  induction ms with
  | nil => rfl
  | cons m ms ih =>
    obtain ⟨hm, hms⟩ := not_or.mp (mt List.mem_cons.mpr h)
    rw [List.cons_append, nothingAfter_cons_of_ne (Ne.symm hm), ih hms]

theorem nothingAfter_of_not_mem {w : StateWrite} {ms : List Micro} (h : .write w ∉ ms) : nothingAfter w ms = true := by
  rw [← List.append_nil ms, nothingAfter_append h]
  rfl

/-- What is left after an element is taken up is sound. -/
theorem PendingSound.tail {c : Config} {a : Bool} {d : DriverState} {op : Instr} {m : Micro} {rest : List Micro}
    (h : PendingSound c a d op (m :: rest)) : PendingSound c a d op rest where
  elements x hx := h.elements x (List.mem_cons_of_mem m hx)
  sleepingLast := nothingAfter_tail h.sleepingLast
  readyLast fast hop := nothingAfter_tail (h.readyLast fast hop)
  released ha x hx := h.released ha x (List.mem_cons_of_mem m hx)
  awake := h.awake

/-- Wire events and busy samples may be put in front of a sound list, pin events only while the pins are claimed. -/
theorem PendingSound.append {c : Config} {a : Bool} {d : DriverState} {op : Instr} {ms rest : List Micro}
    (h : PendingSound c a d op rest) (hms : ∀ m ∈ ms, (∃ e, m = .emit e) ∨ m = .poll)
    (hpins : a = false → ∀ m ∈ ms, drivesPin m = false) : PendingSound c a d op (ms ++ rest) := by
  have hwrite : ∀ w, Micro.write w ∉ ms := fun w hw => by simpa using hms _ hw
  refine ⟨List.forall_mem_append.mpr ⟨fun m hm => ?_, h.elements⟩, ?_, fun fast hop => ?_,
    fun ha => List.forall_mem_append.mpr ⟨hpins ha, h.released ha⟩, h.awake⟩
  · obtain ⟨e, rfl⟩ | rfl := hms m hm <;> trivial
  · rw [nothingAfter_append (hwrite _)]
    exact h.sleepingLast
  · rw [nothingAfter_append (hwrite _)]
    exact h.readyLast fast hop

theorem PendingSound.pollAgain {c : Config} {a : Bool} {d : DriverState} {op : Instr} {rest : List Micro}
    (h : PendingSound c a d op rest) (l : Level) : PendingSound c a d op (pollAgain c l rest) := by
  unfold Machine.pollAgain
  split
  · exact h.append (ms := [.emit (.delay Config.tPoll), .poll]) (by simp) (by simp [drivesPin])
  · exact h

/-! ### A turn keeps the invariant -/

/-- The invariant does not speak of the inputs, of the `done` pulse or of the free values drawn. -/
theorem Inv.taken {s : State} (h : Inv s) (ins : List Input) (n : Nat) : Inv (s.taken ins n) :=
  { h with sequencer := h.sequencer }

/-- The pins an event drives are claimed, so they may take a level (10_state R29). -/
theorem Inv.record {s : State} (h : Inv s) {e : WireEvent} (he : s.attached = false → drivesPin (.emit e) = false) :
    Inv (record e s) := by
  refine { h with released := fun ha => ?_, sequencer := h.sequencer }
  obtain ⟨hrst, hdc, hcs⟩ := h.released ha
  cases e with
  | rst | dc | cs => exact absurd (he ha) nofun
  | _ => exact ⟨hrst, hdc, hcs⟩

theorem Inv.withSeq {s : State} (h : Inv s) {op : Instr} {idx : Nat} {touched : Bool} {rest : List Micro}
    (hrest : PendingSound s.cfg s.attached s.dstate op rest) : Inv { s with seq := .busy op idx touched rest } :=
  { h with sequencer := (seqSound_iff_of_busy rfl).mpr hrest }

theorem Inv.failEvent {s : State} (h : Inv s) (touched : Bool) : Inv (failEvent touched s) :=
  { h with sequencer := seqSound_of_idle rfl }

/-- A buffer of a mode's length is a whole frame of that mode (10_state R22). -/
theorem Inv.writeFrame {s : State} (h : Inv s) {m : ColorMode} {bs : List Byte} (hlen : bs.length = s.cfg.frameLen m) :
    Inv (applyWrite (.frame m bs) s) := by
  have hle : bs.length ≤ s.cfg.packedLen := hlen ▸ Config.frameLen_le h.admitted m
  have hnat : (BitVec.ofNat 32 bs.length).toNat = bs.length := by
    rw [BitVec.toNat_ofNat, Nat.mod_eq_of_lt (hle.trans_lt (Config.packedLen_lt h.admitted))]
  refine { h with
    fbCanonical := Memory.ofBytes_wf bs
    fbWithin := fun x hx => (Memory.mem_ofBytes hx).trans_le hle
    frameWhole := fun _ => ⟨hnat.trans hlen, fun i hi => ?_⟩
    sequencer := h.sequencer }
  have hi : i < bs.length := hnat ▸ hi
  simp [hi]

theorem Inv.writePlanes {s : State} (h : Inv s) {bw red : List Byte} (hbw : bw.length = s.cfg.planeLen)
    (hred : red.length = s.cfg.planeLen) : Inv (applyWrite (.planes bw red) s) :=
  { h with
    plBwCanonical := Memory.ofBytes_wf bw
    plRedCanonical := Memory.ofBytes_wf red
    plBwWithin := fun _ hx => (Memory.mem_ofBytes hx).trans_eq hbw
    plRedWithin := fun _ hx => (Memory.mem_ofBytes hx).trans_eq hred
    sequencer := h.sequencer }

theorem Inv.wrote {s t : State} (h : Inv s) (hw : Wrote s t) : Inv t := by
  obtain ⟨op, idx, touched, w, rest, hs, rfl⟩ := hw
  have hpending := h.pending hs
  have hrest := hpending.tail
  have hsound : microSound s.cfg op (.write w) := hpending.elements _ List.mem_cons_self
  have hnext : Inv { s with seq := .busy op (idx + 1) touched rest } := h.withSeq hrest
  cases w with
  | frame m bs => exact hnext.writeFrame hsound
  | planes bw red => exact hnext.writePlanes hsound.1 hsound.2
  | preferFast f => exact { hnext with sequencer := hnext.sequencer }
  | panelKnown => exact { hnext with sequencer := hnext.sequencer }
  | refreshed => exact { hnext with refreshZero := rfl, sequencer := hnext.sequencer }
  | consumed => exact { hnext with frameWhole := nofun, sequencer := hnext.sequencer }
  | ready =>
    exact { hnext with sequencer := (seqSound_iff_of_busy rfl).mpr { hrest with awake := nofun } }
  | sleeping =>
    have hop : op = .sleep := hsound
    have hlast : rest = [] := by simpa [nothingAfter_cons_self] using hpending.sleepingLast
    subst hop hlast
    exact { hnext with
      released := fun _ => ⟨rfl, rfl, rfl⟩
      sequencer := (seqSound_iff_of_busy rfl).mpr { hrest with released := nofun, awake := nofun } }
  | attached =>
    exact { hnext with
      released := nofun
      sequencer := (seqSound_iff_of_busy rfl).mpr { hrest with released := nofun } }

theorem Inv.turn {l : Level} {f : Bool} {s t : State} (h : Inv s) (ht : Turn l f s t) : Inv t := by
  cases ht with
  | idle => exact h
  | ended => exact { h with sequencer := seqSound_of_idle rfl }
  | emitted hs =>
    have hpending := h.pending hs
    exact (h.withSeq hpending.tail).record fun ha => hpending.released ha _ List.mem_cons_self
  | emitFailed => exact h.failEvent _
  | sampled hs => exact (h.withSeq ((h.pending hs).tail.pollAgain l)).record fun _ => rfl
  | sampleFailed => exact h.failEvent _
  | wrote hs => exact h.wrote ⟨_, _, _, _, _, hs, rfl⟩
  | called hs =>
    have hpending := h.pending hs
    refine h.withSeq (hpending.tail.append (by simp) fun ha => ?_)
    exact absurd (hpending.released ha _ List.mem_cons_self) nofun
  | skipped hs => exact h.withSeq (h.pending hs).tail

end Safety
end Sys2Proof
end

section
/-! PROOFS. The invariant, continued: every operation starts with a sound list, so every step keeps the invariant (O43);
it holds at reset (O44). -/

namespace Sys2Proof.Safety

open Sys2Proof.Machine

/-! ### The expansions of the operations are sound -/

theorem initBody_sound (c : Config) {op : Instr} (h : mayInitialise op = true) (f : Bool) :
    ∀ m ∈ initBody f, microSound c op m := by
  simp [initBody, resetPulse, pinRst, delay, microSound, isPanelCommand, Instr.wellFormed, duc2WellFormed, h]

theorem nestedInit_sound {op : Instr} (h : mayInitialise op = true) (s : State) :
    ∀ m ∈ nestedInit s, microSound s.cfg op m := by
  unfold nestedInit
  split
  · exact initBody_sound _ h _
  · nofun

theorem setCountersOrigin_sound (c : Config) (op : Instr) : ∀ m ∈ setCountersOrigin, microSound c op m := by
  simp [setCountersOrigin, microSound, isPanelCommand, Instr.wellFormed]

theorem recountBeforeRed_sound (c : Config) (op : Instr) : ∀ m ∈ recountBeforeRed c, microSound c op m := by
  unfold recountBeforeRed
  split
  · exact setCountersOrigin_sound c op
  · nofun

theorem loadLut_sound {s : State} (h : s.cfg.Admitted) (op : Instr) (m : ColorMode) :
    ∀ x ∈ loadLut m s, microSound s.cfg op x := by
  simp [loadLut, microSound, isPanelCommand, Instr.wellFormed, lutWellFormed, Config.lut_length h]

theorem showOneBit_sound {s : State} (h : s.cfg.Admitted) (op : Instr) {plane : List Byte}
    (hplane : plane.length = s.cfg.planeLen) : ∀ m ∈ showOneBit plane s, microSound s.cfg op m := by
  simp only [showOneBit, List.forall_mem_append]
  refine ⟨⟨⟨setCountersOrigin_sound _ _, ?_⟩, loadLut_sound h _ _⟩, ?_⟩
  · simp [microSound, isPanelCommand, Instr.wellFormed, planeWellFormed, hplane]
  · simp [activateAndWait, microSound, isPanelCommand, Instr.wellFormed]

theorem showFourLevel_sound {s : State} (h : s.cfg.Admitted) (op : Instr) {bw red : List Byte}
    (hbw : bw.length = s.cfg.planeLen) (hred : red.length = s.cfg.planeLen) :
    ∀ m ∈ showFourLevel bw red s, microSound s.cfg op m := by
  simp only [showFourLevel, List.forall_mem_append]
  refine ⟨⟨⟨⟨⟨⟨setCountersOrigin_sound _ _, ?_⟩, recountBeforeRed_sound _ _⟩, ?_⟩, loadLut_sound h _ _⟩, ?_⟩, ?_⟩
  · simp [microSound, isPanelCommand, Instr.wellFormed, planeWellFormed, hbw]
  · simp [microSound, isPanelCommand, Instr.wellFormed, planeWellFormed, hred]
  · simp [microSound, isPanelCommand, Instr.wellFormed, duc2WellFormed]
  · simp [activateAndWait, microSound, isPanelCommand, Instr.wellFormed]

/-- The two planes derived from a whole FourLevel frame are whole (42_pixel_encoder R154). -/
theorem Inv.length_derived {s : State} (h : Inv s) (hv : s.fbValid = true) (hm : s.fbMode = .fourLevel)
    (table : GrayLevel → Bool) : (derivePlane table (frameBytes s)).length = s.cfg.planeLen := by
  obtain ⟨hlen, -⟩ := h.frameWhole hv
  have hlen : s.fbLen.toNat = 2 * s.cfg.planeLen := by
    rw [hlen, hm, ← Config.packedLen_eq h.admitted, Config.frameLen]
  simp [hlen]

theorem length_whitePlane (c : Config) : (whitePlane c).length = c.planeLen := List.length_replicate ..

theorem displayFrame1BBody_sound {s : State} (h : Inv s) (hv : s.fbValid = true) (hm : s.fbMode = .oneBit) :
    ∀ m ∈ displayFrame1BBody s, microSound s.cfg .displayFrame1B m := by
  have hplane : (frameBytes s).length = s.cfg.planeLen := by
    obtain ⟨hlen, -⟩ := h.frameWhole hv
    rw [length_frameBytes, hlen, hm, Config.frameLen]
  simp only [displayFrame1BBody, List.forall_mem_append]
  refine ⟨⟨nestedInit_sound rfl s, showOneBit_sound h.admitted _ hplane⟩, ?_⟩
  simp [microSound]

theorem displayFrame4LBody_sound {s : State} (h : Inv s) (hv : s.fbValid = true) (hm : s.fbMode = .fourLevel) :
    ∀ m ∈ displayFrame4LBody s, microSound s.cfg .displayFrame4L m := by
  have hbw : (deriveBw (frameBytes s)).length = s.cfg.planeLen := h.length_derived hv hm bwBit
  have hred : (deriveRed (frameBytes s)).length = s.cfg.planeLen := h.length_derived hv hm redBit
  simp only [displayFrame4LBody, List.forall_mem_append]
  refine ⟨⟨⟨nestedInit_sound rfl s, ?_⟩, showFourLevel_sound h.admitted _ hbw hred⟩, ?_⟩
  · simp [microSound, hbw, hred]
  · simp [microSound]

theorem clear1BBody_sound {s : State} (h : s.cfg.Admitted) : ∀ m ∈ clear1BBody s, microSound s.cfg .clear1B m := by
  simp only [clear1BBody, List.forall_mem_append]
  refine ⟨⟨nestedInit_sound rfl s, showOneBit_sound h _ (length_whitePlane _)⟩, ?_⟩
  simp [microSound]

theorem clear4LBody_sound {s : State} (h : s.cfg.Admitted) : ∀ m ∈ clear4LBody s, microSound s.cfg .clear4L m := by
  simp only [clear4LBody, List.forall_mem_append]
  refine ⟨⟨nestedInit_sound rfl s, showFourLevel_sound h _ (length_whitePlane _) (length_whitePlane _)⟩, ?_⟩
  simp [microSound]

theorem sleepBody_sound (c : Config) : ∀ m ∈ sleepBody c, microSound c .sleep m := by
  simp only [sleepBody, List.forall_mem_append, List.forall_mem_map]
  refine ⟨⟨?_, fun _ _ => trivial⟩, ?_⟩
  · simp [microSound, isPanelCommand, Instr.wellFormed]
  · simp [pinRst, pinDc, delay, microSound]

/-- The write of Sleeping closes SLEEP (41_protocol_driver R137). -/
theorem nothingAfter_sleepBody (c : Config) : nothingAfter .sleeping (sleepBody c) = true := by
  unfold sleepBody
  rw [nothingAfter_append (by simp)]
  simp [nothingAfter, pinRst, pinDc, delay]

/-- The write of Ready closes INIT (41_protocol_driver R132). -/
theorem nothingAfter_init (f : Bool) : nothingAfter .ready (.write (.preferFast f) :: initBody f) = true := by
  cases f <;> decide

/-- A list that starts an operation other than SLEEP and INIT is sound as soon as its elements are and no pin is driven
while the pins are released. -/
theorem PendingSound.of_elements {c : Config} {a : Bool} {d : DriverState} {op : Instr} {rest : List Micro}
    (helements : ∀ m ∈ rest, microSound c op m) (hsleep : op ≠ .sleep) (hinit : ∀ fast, op ≠ .init fast)
    (hpins : a = false → ∀ m ∈ rest, drivesPin m = false) (hawake : needsAwake op = true → d ≠ .sleeping) :
    PendingSound c a d op rest where
  elements := helements
  sleepingLast := nothingAfter_of_not_mem fun hmem => hsleep (helements _ hmem)
  readyLast fast hop := absurd hop (hinit fast)
  released := hpins
  awake := hawake

/-! ### An operation of the host keeps the invariant -/

/-- A next state, if it is one, meets the invariant. -/
def InvAfter (o : Outcome) : Prop := ∀ t, o = .next t → Inv t

theorem invAfter_next {s : State} (h : Inv s) : InvAfter (.next s) := by
  rintro _ ⟨⟩
  exact h

theorem invAfter_refused (r : Refusal) : InvAfter (.refused r) := by
  rintro _ ⟨⟩

theorem Inv.raise {s : State} (h : Inv s) (e : ErrorCode) : Inv (raise e s) :=
  { h with sequencer := seqSound_of_idle rfl }

theorem Inv.start {s : State} (h : Inv s) {op : Instr} {rest : List Micro}
    (hrest : PendingSound s.cfg s.attached s.dstate op rest) : InvAfter (start op rest s) :=
  invAfter_next (h.withSeq hrest)

theorem Inv.whenIdle {s : State} (h : Inv s) {o : Outcome} (ho : InvAfter o) : InvAfter (whenIdle s o) := by
  unfold Machine.whenIdle
  split
  · exact invAfter_next h
  · exact ho

theorem Inv.whenAttached {s : State} (h : Inv s) {o : Outcome} (ho : s.attached = true → InvAfter o) :
    InvAfter (whenAttached s o) := by
  unfold Machine.whenAttached
  split
  · exact ho ‹_›
  · exact invAfter_next (h.raise _)

theorem Inv.whenAwake {s : State} (h : Inv s) {o : Outcome} (ho : s.dstate ≠ .sleeping → InvAfter o) :
    InvAfter (whenAwake s o) := by
  unfold Machine.whenAwake
  split
  · exact invAfter_next (h.raise _)
  · exact ho ‹_›

theorem InvAfter.whenTagged {m : ColorMode} {s : State} {o : Outcome}
    (ho : s.fbValid = true → s.fbMode = m → InvAfter o) : InvAfter (whenTagged m s o) := by
  by_cases htag : s.fbValid = true ∧ s.fbMode = m
  · rw [whenTagged_of_tagged o htag.1 htag.2]
    exact ho htag.1 htag.2
  · rw [whenTagged_of_untagged o htag]
    exact invAfter_refused _

/-- An attached operation other than SLEEP and INIT starts soundly as soon as its elements are sound. -/
theorem Inv.start_attached {s : State} (h : Inv s) {op : Instr} {rest : List Micro} (ha : s.attached = true)
    (helements : ∀ m ∈ rest, microSound s.cfg op m) (hsleep : op ≠ .sleep) (hinit : ∀ fast, op ≠ .init fast)
    (hawake : needsAwake op = true → s.dstate ≠ .sleeping) : InvAfter (Machine.start op rest s) :=
  h.start (.of_elements helements hsleep hinit (fun hreleased => absurd (ha.symm.trans hreleased) nofun) hawake)

theorem Inv.encodeGrid {s : State} (h : Inv s) {op : Instr} {m : ColorMode}
    {pack : Config → (Nat → Nat → Byte) → List Byte} (hlen : ∀ p, (pack s.cfg p).length = s.cfg.frameLen m)
    (hsleep : op ≠ .sleep) (hinit : ∀ fast, op ≠ .init fast) (hawake : needsAwake op = false) :
    InvAfter (encodeGrid op m pack s) := by
  unfold Machine.encodeGrid
  split
  · split
    · exact invAfter_next (h.raise _)
    · split
      · exact h.start (.of_elements (by simp [microSound, hlen]) hsleep hinit (by simp [drivesPin]) (by simp [hawake]))
      · exact invAfter_refused _
  · exact invAfter_refused _

theorem Inv.exec_host {s : State} (h : Inv s) {i : Instr} (hi : isPanelCommand i = false) : InvAfter (exec i s) := by
  cases i <;> simp only [isPanelCommand, Bool.true_eq_false] at hi <;> refine h.whenIdle ?_
  case reset =>
    refine h.whenAttached fun ha => h.start_attached ha ?_ nofun nofun nofun
    simp [resetPulse, pinRst, delay, microSound]
  case init fast =>
    refine h.whenAttached fun ha => h.start ⟨?_, ?_, ?_, fun hreleased => absurd (ha.symm.trans hreleased) nofun, nofun⟩
    · exact List.forall_mem_cons.mpr ⟨rfl, initBody_sound s.cfg rfl fast⟩
    · cases fast <;> decide
    · exact fun _ _ => nothingAfter_init fast
  case displayFrame1B =>
    exact h.whenAwake fun hd => .whenTagged fun hv hm => h.whenAttached fun ha =>
      h.start_attached ha (displayFrame1BBody_sound h hv hm) nofun nofun fun _ => hd
  case displayFrame4L =>
    exact h.whenAwake fun hd => .whenTagged fun hv hm => h.whenAttached fun ha =>
      h.start_attached ha (displayFrame4LBody_sound h hv hm) nofun nofun fun _ => hd
  case clear1B =>
    exact h.whenAwake fun hd => h.whenAttached fun ha =>
      h.start_attached ha (clear1BBody_sound h.admitted) nofun nofun fun _ => hd
  case clear4L =>
    exact h.whenAwake fun hd => h.whenAttached fun ha =>
      h.start_attached ha (clear4LBody_sound h.admitted) nofun nofun fun _ => hd
  case sleep =>
    exact h.whenAttached fun ha => h.start ⟨sleepBody_sound s.cfg, nothingAfter_sleepBody s.cfg, nofun,
      fun hreleased => absurd (ha.symm.trans hreleased) nofun, nofun⟩
  case waitIdle =>
    exact h.whenAttached fun ha => h.start_attached ha (by simp [microSound]) nofun nofun nofun
  case encode1B => exact h.encodeGrid (length_pack1 s.cfg) nofun nofun rfl
  case encode4L => exact h.encodeGrid (length_pack4 h.admitted) nofun nofun rfl
  case derivePlanes =>
    refine .whenTagged fun hv hm => h.start (.of_elements ?_ nofun nofun (by simp [drivesPin]) nofun)
    rintro _ (_ | ⟨_, ⟨⟩⟩)
    exact ⟨h.length_derived hv hm bwBit, h.length_derived hv hm redBit⟩
  case attach =>
    split
    · exact invAfter_next h
    · exact h.start
        (.of_elements (by simp [attachBody, microSound]) nofun nofun (by simp [attachBody, drivesPin]) nofun)
  all_goals exact invAfter_next (h.raise _)

/-! ### Every step keeps the invariant -/

/-- Right after reset every admitted configuration meets the invariant (10_state R30). -/
theorem inv_resetWith {c : Config} (h : c.Admitted) : Inv (State.resetWith c) where
  admitted := h
  imgCanonical := Memory.nil_wf
  fbCanonical := Memory.nil_wf
  plBwCanonical := Memory.nil_wf
  plRedCanonical := Memory.nil_wf
  fbWithin := nofun
  plBwWithin := nofun
  plRedWithin := nofun
  frameWhole := nofun
  refreshZero := rfl
  released _ := ⟨rfl, rfl, rfl⟩
  sequencer := seqSound_of_idle rfl

theorem Inv.reaction {i : Input} {s t : State} (h : Inv s) (ht : Reaction s i t) : Inv t := by
  cases ht with
  | turn ht => exact h.turn ht
  | ignored => exact h
  | operated _ hop hexec => exact h.exec_host hop t hexec
  | elementSet x y v =>
    exact { h with imgCanonical := Memory.write_wf _ v h.imgCanonical, sequencer := h.sequencer }
  | byteRead p => cases p <;> exact { h with sequencer := h.sequencer }
  | reset => exact { inv_resetWith h.admitted with sequencer := seqSound_of_idle rfl }
  | _ => exact { h with sequencer := h.sequencer }

end Sys2Proof.Safety

section

open Sys2Proof Sys2Proof.Machine Sys2Proof.Safety

/-- Settles O43: every reaction keeps the invariant, and taking the input does. -/
theorem everyStepKeepsTheInvariant : Obligations.EveryStepKeepsTheInvariant := by
  intro s t hinv hstep
  obtain ⟨_, ins, n, -, hreact⟩ := step_reaction hstep
  exact (hinv.taken ins n).reaction hreact

/-- Settles O44: the reference configuration is admitted. -/
theorem resetMeetsTheInvariant : Obligations.ResetMeetsTheInvariant := inv_resetWith Config.reference_admitted

end
end

section
/-! PROOFS. What the invariant says of a step: the sequencer never stops (O45), and who writes the DriverState, the
preference and the attachment (O46, O47). -/

namespace Sys2Proof.Safety

open Sys2Proof.Machine

/-- A turn stops only where something that is no panel command is taken up, which no sound list holds. -/
theorem Inv.advance_next {s : State} (h : Inv s) (l : Level) (f : Bool) : ∃ t, advance l f s = .next t := by
  cases hs : s.seq with
  | idle => exact ⟨_, advance_idle l f hs⟩
  | busy op idx touched rest =>
    cases rest with
    | nil => exact ⟨_, advance_end l f hs⟩
    | cons m rest =>
      cases m with
      | emit e =>
        simp only [advance, hs]
        split <;> exact ⟨_, rfl⟩
      | poll =>
        simp only [advance, hs]
        split <;> exact ⟨_, rfl⟩
      | write w => exact ⟨_, advance_write l f hs⟩
      | call i =>
        obtain ⟨hi, -⟩ : microSound s.cfg op (.call i) := (h.pending hs).elements _ List.mem_cons_self
        rw [advance_call l f hs, exec_panel_busy i hi rfl]
        exact ⟨_, rfl⟩

/-- The only operation that initialises and is legal while Sleeping is INIT (41_protocol_driver R132). -/
theorem eq_init_of_mayInitialise {op : Instr} (h : mayInitialise op = true) (hasleep : needsAwake op ≠ true) :
    ∃ fast, op = .init fast := by
  cases op with
  | init fast => exact ⟨fast, rfl⟩
  | displayFrame1B | displayFrame4L | clear1B | clear4L => exact absurd rfl hasleep
  | _ => exact absurd h nofun

theorem Inv.advanceFree_next {s : State} (h : Inv s) : ∃ t, advanceFree { s with done := false } = .next t := by
  unfold advanceFree
  split
  · exact (h.taken s.inputs (s.freeCount + 1)).advance_next _ _
  · exact ⟨_, rfl⟩

end Sys2Proof.Safety

namespace Sys2Proof.Machine

theorem exec_attach_next (s : State) : ∃ t, exec .attach s = .next t := by
  show ∃ t, execAttach s = .next t
  unfold execAttach whenIdle
  split
  · exact ⟨s, rfl⟩
  · split <;> exact ⟨_, rfl⟩

theorem imgWrite_has_next (x y : BitVec 16) (v : Byte) (s : State) : ∃ t, imgWrite x y v s = .next t := by
  unfold imgWrite
  split <;> exact ⟨_, rfl⟩

end Sys2Proof.Machine

section

open Sys2Proof Sys2Proof.Machine Sys2Proof.Safety

/-- Settles O45: of the inputs it speaks of, only a turn could stop, and the invariant excludes that. -/
theorem sequencerNeverStops : Obligations.SequencerNeverStops := by
  intro s hinv hinput
  cases hin : s.inputs with
  | nil =>
    rw [step_of_no_input hin]
    exact hinv.advanceFree_next
  | cons i rest =>
    rw [step_of_input hin]
    rw [hin] at hinput
    obtain ⟨⟨⟩⟩ | ⟨l, f, ⟨⟩⟩ | ⟨⟨⟩⟩ | ⟨⟨⟩⟩ | ⟨x, y, v, ⟨⟩⟩ := hinput
    · exact (hinv.taken rest s.freeCount).advance_next l f
    · exact exec_attach_next _
    · exact ⟨_, rfl⟩
    · exact imgWrite_has_next x y v _

/-- Settles O46: of the state writes only those of Ready and Sleeping give DSTATE another value, and the invariant says
in which operation and at which place each stands. -/
theorem driverStateTransitions : Obligations.DriverStateTransitions := by
  intro s t hinv hstep hchanged hreset
  obtain hkept | ⟨ins, n, op, idx, touched, w, rest, hs, rfl⟩ := step_driverKept_or_wrote hstep hreset
  · exact absurd hkept.dstate hchanged
  have hs : s.seq = .busy op idx touched (.write w :: rest) := hs
  have hpending := hinv.pending hs
  have hsound : microSound s.cfg op (.write w) := hpending.elements _ List.mem_cons_self
  cases w with
  | ready =>
    refine .inl ⟨rfl, op, idx, touched, rest, hs, hsound, fun hsleeping => ?_, ?_⟩
    · have hawake : needsAwake op ≠ true := fun hneeds => hpending.awake hneeds hsleeping
      exact eq_init_of_mayInitialise hsound hawake
    · rintro ⟨fast, hop⟩
      simpa [nothingAfter_cons_self] using hpending.readyLast fast hop
  | sleeping =>
    have hop : op = .sleep := hsound
    have hlast : rest = [] := by simpa [nothingAfter_cons_self] using hpending.sleepingLast
    subst hop hlast
    exact .inr ⟨rfl, idx, touched, hs⟩
  | _ => exact absurd rfl hchanged

/-- Settles O47: each of the two registers has one writer, and the invariant says in which operation it stands. -/
theorem preferenceAndAttachmentWriters : Obligations.PreferenceAndAttachmentWriters := by
  intro s t hinv hstep hreset
  obtain hkept | ⟨ins, n, op, idx, touched, w, rest, hs, rfl⟩ := step_driverKept_or_wrote hstep hreset
  · refine ⟨fun h => absurd hkept.prefFast h, fun h0 h1 => ?_, fun h1 h0 => ?_⟩
    · exact absurd (h0.symm.trans (hkept.attached.symm.trans h1)) nofun
    · exact absurd (h1.symm.trans (hkept.attached.symm.trans h0)) nofun
  have hs : s.seq = .busy op idx touched (.write w :: rest) := hs
  have hsound : microSound s.cfg op (.write w) := (hinv.pending hs).elements _ List.mem_cons_self
  cases w with
  | preferFast f =>
    have hop : op = .init f := hsound
    exact ⟨fun _ => ⟨idx, touched, _, hop ▸ hs⟩, fun h0 h1 => absurd (h0.symm.trans h1) nofun,
      fun h1 h0 => absurd (h1.symm.trans h0) nofun⟩
  | attached =>
    have hop : op = .attach := hsound
    exact ⟨fun h => absurd rfl h, fun _ _ => ⟨idx, touched, _, hop ▸ hs⟩, nofun⟩
  | sleeping =>
    have hop : op = .sleep := hsound
    exact ⟨fun h => absurd rfl h, nofun, fun _ _ => ⟨idx, touched, _, hop ▸ hs⟩⟩
  | _ =>
    exact ⟨fun h => absurd rfl h, fun h0 h1 => absurd (h0.symm.trans h1) nofun,
      fun h1 h0 => absurd (h1.symm.trans h0) nofun⟩

end
end

section
/-! PROOFS. The host's ports and reset (O53 to O56, O58 to O60), the idle step (O6) and the refusal of an ENCODE over an
unwritten grid (O38). -/

namespace Sys2Proof.Machine

/-! ### The register port -/

/-- Idle, or of STATUS at any time, a read answers the register's value (10_state R27). -/
theorem hostRead_value {s : State} {a : BitVec 6} {r : HostReg} (ha : regAt a = some r)
    (hr : s.seq = .idle ∨ r = .status) : hostRead a s = .next { s with hRdata := regValue r s } := by
  have hanswer : (busyOp s && r != .status) = false := by
    obtain hidle | rfl := hr
    · rw [busyOp_eq_false hidle, Bool.false_and]
    · exact Bool.and_false _
  simp only [hostRead, ha, hanswer, Bool.false_eq_true, if_false]

/-- A write while idle is the write of the register at its address (10_state R27). -/
theorem hostWrite_idle {s : State} {a : BitVec 6} {r : HostReg} (d : BitVec 32) (ha : regAt a = some r)
    (hidle : s.seq = .idle) : hostWrite a d s = regWrite r d s := by
  simp only [hostWrite, ha, busyOp_eq_false hidle, Bool.false_eq_true, if_false]

theorem step_hostRead {s : State} {rest : List Input} {a : BitVec 6} {r : HostReg} (h : s.inputs = .hostRead a :: rest)
    (ha : regAt a = some r) (hr : s.seq = .idle ∨ r = .status) :
    step s = .next { s with inputs := rest, done := false, hRdata := regValue r s } := by
  have hvalue : regValue r { s with inputs := rest, done := false } = regValue r s := by cases r <;> rfl
  rw [step_of_input h, ← hvalue]
  exact hostRead_value ha hr

theorem step_hostWrite {s : State} {rest : List Input} {a : BitVec 6} {d : BitVec 32} {r : HostReg}
    (h : s.inputs = .hostWrite a d :: rest) (ha : regAt a = some r) (hidle : s.seq = .idle) :
    step s = regWrite r d { s with inputs := rest, done := false } :=
  (step_of_input h).trans (hostWrite_idle d ha hidle)

theorem imgWrite_idle {s : State} (x y : BitVec 16) (v : Byte) (hidle : s.seq = .idle) :
    imgWrite x y v s = .next { s with img := s.img.write (imgAddr x.toNat y.toNat) v } := by
  simp only [imgWrite, busyOp_eq_false hidle, Bool.false_eq_true, if_false]

theorem advanceFree_idle {s : State} (hidle : s.seq = .idle) : advanceFree s = .next s := by
  simp only [advanceFree, busyOp_eq_false hidle, Bool.false_eq_true, if_false]

theorem hostRead_unmapped {s : State} {a : BitVec 6} (ha : regAt a = none) :
    hostRead a s = .fault (.unmappedRegister a) := by
  simp only [hostRead, ha]

theorem hostWrite_unmapped {s : State} {a : BitVec 6} (d : BitVec 32) (ha : regAt a = none) :
    hostWrite a d s = .fault (.unmappedRegister a) := by
  simp only [hostWrite, ha]

/-- The low 16 bits, in the two spellings of the model and the statements. -/
theorem extractLsb'_zero_sixteen (d : BitVec 32) : d.extractLsb' 0 16 = d.setWidth 16 := by
  ext i hi
  simp

theorem memRead_beyond {p : ReadPort} {j : BitVec 32} {s : State} (h : portCapacity p s.cfg ≤ j.toNat) :
    memRead p j s = .fault (.beyondCapacity p j) := by
  simp [memRead, Nat.not_lt.mpr h]

/-! ### The STATUS register -/

/-- The STATUS register bit by bit, the lowest field first (10_state R27). -/
theorem statusWord_getLsbD (s : State) (i : Nat) : (statusWord s).getLsbD i =
    (decide (i < 32) &&
      if i < 1 then (BitVec.ofBool (busyOp s)).getLsbD i
      else if i - 1 < 1 then (BitVec.ofBool s.attached).getLsbD (i - 1)
      else if i - 2 < 2 then (dstateCode s.dstate).getLsbD (i - 2)
      else if i - 4 < 1 then (BitVec.ofBool s.fbValid).getLsbD (i - 4)
      else if i - 5 < 1 then (BitVec.ofBool (modeBit s.fbMode)).getLsbD (i - 5)
      else if i - 6 < 1 then (BitVec.ofBool s.prefFast).getLsbD (i - 6)
      else false) := by
  simp only [statusWord, BitVec.getLsbD_setWidth, BitVec.getLsbD_append, BitVec.getLsbD_zero]
  simp only [Nat.sub_sub, Nat.reduceAdd]

theorem statusWord_dstate (s : State) : (statusWord s).extractLsb' 2 2 = dstateCode s.dstate := by
  ext i hi
  have hbelow : 2 + i < 32 := by omega
  have hpast : ¬ 2 + i < 1 ∧ ¬ 2 + i - 1 < 1 := by omega
  rw [BitVec.getElem_extractLsb', statusWord_getLsbD]
  simp [hi, hbelow, hpast, ← BitVec.getLsbD_eq_getElem]

theorem statusWord_unused (s : State) : (statusWord s).extractLsb' 7 25 = 0 := by
  ext i hi
  have hpast : ¬ 7 + i < 1 ∧ ¬ 7 + i - 1 < 1 ∧ ¬ 7 + i - 2 < 2 ∧ ¬ 7 + i - 4 < 1 ∧ ¬ 7 + i - 5 < 1 ∧
      ¬ 7 + i - 6 < 1 := by omega
  simp [statusWord_getLsbD, hpast]

/-! ### ENCODE over an unwritten grid -/

/-- Both ENCODEs are refused wherever their common part is (93_implementation_defined U10). -/
theorem encode_refused {s : State} (hidle : s.seq = .idle)
    (h : ∀ op m pack, encodeGrid op m pack s = .refused .gridUnwritten) :
    exec .encode1B s = .refused .gridUnwritten ∧ exec .encode4L s = .refused .gridUnwritten :=
  ⟨(whenIdle_of_idle _ hidle).trans (h _ _ _), (whenIdle_of_idle _ hidle).trans (h _ _ _)⟩

theorem encodeGrid_of_unset {s : State} (h : ¬(s.imgWSet = true ∧ s.imgHSet = true)) (op : Instr) (m : ColorMode)
    (pack : Config → (Nat → Nat → Byte) → List Byte) : encodeGrid op m pack s = .refused .gridUnwritten := by
  rw [encodeGrid, if_neg]
  simpa using h

theorem encodeGrid_of_hole {s : State} {o : Orientation} (ho : orientation s.cfg s.imgW.toNat s.imgH.toNat = some o)
    {px py : Nat} (hx : px < s.cfg.w) (hy : py < s.cfg.h) (hole : gridElement s o px py = none) (op : Instr)
    (m : ColorMode) (pack : Config → (Nat → Nat → Byte) → List Byte) :
    encodeGrid op m pack s = .refused .gridUnwritten := by
  have hunwritten : gridWritten s o = false := by
    simp only [gridWritten, List.all_eq_false, List.mem_range]
    exact ⟨py, hy, by simpa using ⟨px, hx, by simp [hole]⟩⟩
  simp [encodeGrid, ho, hunwritten]

end Sys2Proof.Machine

section

open Sys2Proof Sys2Proof.Machine Sys2Proof.Safety

/-- Settles O6: an idle sequencer takes no turn. -/
theorem idleStepChangesOnlyDone : Obligations.IdleStepChangesOnlyDone :=
  fun _ hin hidle => (step_of_no_input hin).trans (advanceFree_idle hidle)

/-- Settles O38, one clause for the dimensions and one for a hole in each orientation of the grid. -/
theorem encodeBeforeDimensionsStops : Obligations.EncodeBeforeDimensionsStops := by
  intro s hidle
  refine ⟨fun hunset => encode_refused hidle (encodeGrid_of_unset hunset), ?_, ?_⟩
  · rintro hw hh ⟨px, py, hx, hy, hole⟩
    exact encode_refused hidle (encodeGrid_of_hole (o := .direct) (by simp [orientation, hw, hh]) hx hy hole)
  · rintro hw hh hsquare ⟨x, y, hx, hy, hole⟩
    have hcolumn : s.cfg.h - 1 - (s.cfg.h - 1 - x) = x := by omega
    refine encode_refused hidle (encodeGrid_of_hole (o := .transposed) (px := y) (py := s.cfg.h - 1 - x) ?_ hy
      (by omega) ?_)
    · simp [orientation, hw, hh, hsquare.symm]
    · simpa [gridElement, gridX, gridY, hcolumn] using hole

/-- Settles O53, from the fields the word is put together of. -/
theorem statusBits : Obligations.StatusBits := by
  intro s
  refine ⟨?_, ?_, fun h => ?_, fun h => ?_, fun h => ?_, ?_, ?_, ?_, statusWord_unused s, fun h => ?_, fun h => ?_,
    fun h => ?_, fun h => ?_, fun h => ?_, fun h => ?_⟩
  · rw [statusWord_getLsbD]; simp
  · rw [statusWord_getLsbD]; simp
  · rw [statusWord_dstate, h]; rfl
  · rw [statusWord_dstate, h]; rfl
  · rw [statusWord_dstate, h]; rfl
  · rw [statusWord_getLsbD]; simp
  · rw [statusWord_getLsbD]; cases s.fbMode <;> rfl
  · rw [statusWord_getLsbD]; simp
  all_goals
    rw [errPort, h]
    rfl

/-- Settles O54, from the value of the register at each address. -/
theorem hostReadsAnswerRegisters : Obligations.HostReadsAnswerRegisters := by
  intro s rest a h
  refine ⟨?_, fun hidle => ⟨?_, ?_, ?_, ?_, ?_, ?_, ?_, ?_, ?_, ?_⟩⟩
  · rintro rfl
    exact step_hostRead h rfl (.inr rfl)
  case refine_3 =>
    rintro rfl n hn
    have hcode : regValue .err s = n := by
      obtain ⟨he, rfl⟩ | ⟨he, rfl⟩ | ⟨he, rfl⟩ | ⟨he, rfl⟩ | ⟨he, rfl⟩ | ⟨he, rfl⟩ := hn
      all_goals simp [regValue, he, errCode]
    rw [← hcode]
    exact step_hostRead h rfl (.inl hidle)
  all_goals
    rintro rfl
    exact step_hostRead h rfl (.inl hidle)

/-- Settles O55, from the write of the register at each address. -/
theorem hostWritesSetTheirRegisters : Obligations.HostWritesSetTheirRegisters := by
  intro s rest a d h hidle
  rw [← extractLsb'_zero_sixteen]
  refine ⟨?_, ?_, ?_, ?_⟩
  case refine_4 => rintro (rfl | rfl | rfl | rfl | rfl | rfl | rfl) <;> exact step_hostWrite h rfl hidle
  all_goals
    rintro rfl
    exact step_hostWrite h rfl hidle

/-- Settles O56: those addresses are in no row of the map, those bytes above the capacity of the port. -/
theorem accessesOutsideTheMapFault : Obligations.AccessesOutsideTheMapFault := by
  intro s rest
  refine ⟨fun a ha => ⟨fun h => ?_, fun d h => ?_⟩, fun j => ⟨fun h hj => ?_, fun h hj => ?_, fun h hj => ?_⟩⟩
  · exact (step_of_input h).trans (hostRead_unmapped (regAt_eq_none ha))
  · exact (step_of_input h).trans (hostWrite_unmapped d (regAt_eq_none ha))
  all_goals exact (step_of_input h).trans (memRead_beyond hj)

/-- Settles O58: two elements of the grid have one address only if their coordinates agree. -/
theorem gridWritesLandAtTheirCoordinates : Obligations.GridWritesLandAtTheirCoordinates := by
  intro s rest x y v hidle h
  refine ⟨_, (step_of_input h).trans (imgWrite_idle x y v hidle), rfl, Memory.read_write_same _ _ v,
    fun x' y' hother => Memory.read_write_other _ v fun hsame => ?_⟩
  obtain ⟨hx, hy⟩ := imgAddr_inj hsame
  exact hother.elim (absurd hx) (absurd hy)

/-- Settles O59: block reset is the reset state of the configuration, with the pending inputs. -/
theorem blockResetFromEveryState : Obligations.BlockResetFromEveryState := by
  intro s rest h
  refine ⟨_, step_of_input h, ?_⟩
  simp [State.resetWith]

/-- Settles O60, field by field. -/
theorem resetValues : Obligations.ResetValues :=
  ⟨rfl, rfl, rfl, rfl, rfl, rfl, rfl, rfl, rfl, rfl, rfl, rfl, rfl, rfl⟩

end
end

section
/-! PROOFS. The memory ports (O57), and what a run of turns with no failing event puts on the wire and leaves in the
registers: the byte trace and the registers at the end of an operation are fixed when it starts, whatever the busy
samples (41_protocol_driver R142). -/

namespace Sys2Proof.Machine

open Sys2Proof.Safety

/-! ### The memory ports -/

/-- Idle, a byte the spec fixes is answered as it stands (20_memory R40, R42). -/
theorem memRead_value {p : ReadPort} {j : BitVec 32} {b : Byte} {s : State} (hidle : s.seq = .idle)
    (hcap : j.toNat < portCapacity p s.cfg) (hb : portByte p j.toNat s = some b) :
    memRead p j s = .next (portAnswer p b s) := by
  simp only [memRead, hcap, if_true, busyOp_eq_false hidle, Bool.false_eq_true, if_false, hb]

/-! ### Byte traces of event lists (00_scope R9) -/

theorem byteTraceFrom_append (d : Option Level) (a b : List WireEvent) :
    byteTraceFrom d (a ++ b) = byteTraceFrom d a ++ byteTraceFrom (a.foldl dcAfter d) b := by
  induction a generalizing d with
  | nil => rfl
  | cons e a ih => cases e <;> simp [byteTraceFrom, dcAfter, ih]

theorem byteTraceFrom_dataFrames (d : Option Level) (bs : List Byte) :
    byteTraceFrom d (bs.flatMap dataFrame) = bs.map (fun b => (.data, b)) := by
  induction bs generalizing d with
  | nil => rfl
  | cons b bs ih => simp [dataFrame, byteTraceFrom, frameKind, ih]

theorem byteTraceFrom_commandEvents (d : Option Level) (op : Byte) (args : List Byte) :
    byteTraceFrom d (commandEvents op args) = commandBytes op args := by
  simp [commandEvents, commandFrame, byteTraceFrom, frameKind, commandBytes, byteTraceFrom_dataFrames]

theorem byteTraceFrom_planeEvents (d : Option Level) (op : Byte) (p : List Byte) :
    byteTraceFrom d (planeEvents op p) = commandBytes op p := by
  simp [planeEvents, commandFrame, bulkFrame, byteTraceFrom, frameKind, commandBytes]

/-- The byte trace of a panel command (30_encoding R70). -/
def panelBytes (c : Config) (i : Instr) : List WireByte := byteTraceFrom none (panelEvents c i)

/-- Every panel command drives data/command-select before its first byte, so its byte trace does not depend on the
level it finds there. -/
theorem byteTraceFrom_panelEvents (d : Option Level) (c : Config) (i : Instr) :
    byteTraceFrom d (panelEvents c i) = panelBytes c i := by
  cases i <;> simp [panelBytes, panelEvents, byteTraceFrom_commandEvents, byteTraceFrom_planeEvents, byteTraceFrom]

theorem panelEvents_of_not_panel {i : Instr} (h : isPanelCommand i = false) (c : Config) : panelEvents c i = [] := by
  revert h
  cases i <;> simp [isPanelCommand, panelEvents]

/-! ### What the sequencer has before it -/

/-- The elements the sequencer has left. -/
def Seq.pending : Seq → List Micro
  | .idle => []
  | .busy _ _ _ rest => rest

/-- The events an element puts on the wire, its busy samples and the delays between them apart. -/
def microEvents (c : Config) : Micro → List WireEvent
  | .emit e => [e]
  | .poll => []
  | .write _ => []
  | .call i => panelEvents c i

/-- The state write an element is. -/
def Micro.write? : Micro → Option StateWrite
  | .write w => some w
  | _ => none

/-- A list of state writes, performed in order. -/
def applyWrites (ws : List StateWrite) (s : State) : State := ws.foldl (fun s w => applyWrite w s) s

/-- The registers and memories, with everything that a wire event, the end of an operation or the environment changes
set aside. -/
def State.registers (s : State) : State :=
  { s with
    seq := .idle, trace := [], rstO := none, dcO := none, csO := none, err := .none, done := false, inputs := [] }

/-- The byte trace the operation in progress ends with, if no event fails. -/
def bytesAtEnd (s : State) : List WireByte := byteTrace (s.trace ++ s.seq.pending.flatMap (microEvents s.cfg))

/-- The registers the operation in progress ends with, if no event fails. -/
def registersAtEnd (s : State) : State := (applyWrites (s.seq.pending.filterMap Micro.write?) s).registers

theorem bytesAtEnd_of_idle {s : State} (h : s.seq = .idle) : bytesAtEnd s = byteTrace s.trace := by
  simp [bytesAtEnd, h, Seq.pending]

theorem registersAtEnd_of_idle {s : State} (h : s.seq = .idle) : registersAtEnd s = s.registers := by
  simp [registersAtEnd, h, Seq.pending, applyWrites]

/-- A state write reads no field that `State.registers` sets aside. -/
theorem registers_applyWrite (w : StateWrite) (s : State) :
    (applyWrite w s).registers = (applyWrite w s.registers).registers := by
  cases w <;> rfl

theorem registers_applyWrites_congr (ws : List StateWrite) {s t : State} (h : s.registers = t.registers) :
    (applyWrites ws s).registers = (applyWrites ws t).registers := by
  induction ws generalizing s t with
  | nil => exact h
  | cons w ws ih =>
    refine ih ?_
    rw [registers_applyWrite, h, ← registers_applyWrite]

theorem registersAtEnd_environment (s : State) (ins : List Input) (d : Bool) :
    registersAtEnd { s with inputs := ins, done := d } = registersAtEnd s :=
  registers_applyWrites_congr _ rfl

/-! ### A turn in which no event fails -/

/-- A turn moves bytes from what is to come to the trace; a busy sample and a delay are no bytes (00_scope R9). -/
theorem Turn.bytesAtEnd_eq {l : Level} {s t : State} (h : Turn l false s t) : bytesAtEnd t = bytesAtEnd s := by
  cases h with
  | idle => rfl
  | ended h => simp [bytesAtEnd, h, Seq.pending]
  | emitted h => simp [bytesAtEnd, h, Seq.pending, microEvents]
  | emitFailed _ hf => exact absurd hf nofun
  | sampled h =>
    have hsilent : ∀ d es, byteTraceFrom d (.busy l :: es) = byteTraceFrom d es := fun _ _ => rfl
    have hdelay : ∀ d ms es, byteTraceFrom d (.delay ms :: es) = byteTraceFrom d es := fun _ _ _ => rfl
    unfold pollAgain
    split <;> simp [bytesAtEnd, h, Seq.pending, microEvents, byteTrace, byteTraceFrom_append, hsilent, hdelay]
  | sampleFailed _ hf => exact absurd hf nofun
  | wrote h => simp [bytesAtEnd, h, Seq.pending, microEvents]
  | called h => simp [bytesAtEnd, h, Seq.pending, microEvents, List.flatMap_map]
  | skipped h hi => simp [bytesAtEnd, h, Seq.pending, microEvents, panelEvents_of_not_panel hi]

theorem filterMap_write?_emits (es : List WireEvent) : (es.map Micro.emit).filterMap Micro.write? = [] := by
  simp [List.filterMap_map, Function.comp_def, Micro.write?]

theorem filterMap_write?_pollAgain (c : Config) (l : Level) (rest : List Micro) :
    (pollAgain c l rest).filterMap Micro.write? = rest.filterMap Micro.write? := by
  unfold pollAgain
  split <;> rfl

theorem Turn.registersAtEnd_eq {l : Level} {s t : State} (h : Turn l false s t) :
    registersAtEnd t = registersAtEnd s := by
  cases h with
  | idle => rfl
  | ended h =>
    rw [registersAtEnd_of_idle rfl]
    simp [registersAtEnd, h, Seq.pending, applyWrites, State.registers, complete]
  | emitted h =>
    simp only [registersAtEnd, record_seq, h]
    exact registers_applyWrites_congr _ rfl
  | emitFailed _ hf => exact absurd hf nofun
  | sampled h =>
    simp only [registersAtEnd, record_seq, h, Seq.pending, filterMap_write?_pollAgain]
    exact registers_applyWrites_congr _ rfl
  | sampleFailed _ hf => exact absurd hf nofun
  | @wrote _ _ _ w _ h =>
    simp only [registersAtEnd, applyWrite_seq, h]
    refine registers_applyWrites_congr _ ?_
    rw [registers_applyWrite]
    exact (registers_applyWrite w s).symm
  | called h =>
    simp only [registersAtEnd, h, Seq.pending, List.filterMap_append, filterMap_write?_emits]
    exact registers_applyWrites_congr _ rfl
  | skipped h =>
    simp only [registersAtEnd, h]
    exact registers_applyWrites_congr _ rfl

/-! ### A run of such turns -/

theorem Turn.inputs_eq {l : Level} {f : Bool} {s t : State} (h : Turn l f s t) : t.inputs = s.inputs := by
  cases h with
  | wrote h => simp
  | _ => rfl

/-- What every turn with no failing event keeps, a run of such turns keeps. -/
theorem run_unfailing_keeps {P : State → Prop} (hturn : ∀ {l s t}, Turn l false s t → P s → P t)
    (henv : ∀ {s} ins d, P s → P { s with inputs := ins, done := d }) (levels : List Level) {s u : State}
    (hrun : Host.Core.run Sys2Proof.core levels.length { s with inputs := unfailingTurns levels } = .next u)
    (hs : P s) : P u := by
  induction levels generalizing s with
  | nil =>
    cases hrun
    exact henv _ _ hs
  | cons l levels ih =>
    rw [List.length_cons, run_succ, step_tick (l := l) (f := false) (rest := unfailingTurns levels) rfl] at hrun
    cases hadvance : advance l false { s with inputs := unfailingTurns levels, done := false } with
    | next t =>
      have ht := advance_turn hadvance
      have hinputs : { t with inputs := unfailingTurns levels } = t := by
        rw [← show t.inputs = unfailingTurns levels from ht.inputs_eq]
      simp only [hadvance] at hrun
      exact ih (hinputs.symm ▸ hrun) (hturn ht (henv _ _ hs))
    | fault r => simp [hadvance] at hrun
    | refused r => simp [hadvance] at hrun

/-- A run of turns with no failing event that ends idle ends with the bytes and the registers that were to come
(41_protocol_driver R142). -/
theorem run_unfailing_end (levels : List Level) {s u : State}
    (hrun : Host.Core.run Sys2Proof.core levels.length { s with inputs := unfailingTurns levels } = .next u)
    (hu : u.seq = .idle) : byteTrace u.trace = bytesAtEnd s ∧ u.registers = registersAtEnd s := by
  rw [← bytesAtEnd_of_idle hu, ← registersAtEnd_of_idle hu]
  refine run_unfailing_keeps (P := fun x => bytesAtEnd x = bytesAtEnd s ∧ registersAtEnd x = registersAtEnd s)
    (fun ht ⟨hb, hr⟩ => ⟨ht.bytesAtEnd_eq.trans hb, ht.registersAtEnd_eq.trans hr⟩)
    (fun _ _ ⟨hb, hr⟩ => ⟨hb, (registersAtEnd_environment _ _ _).trans hr⟩) levels hrun ⟨rfl, rfl⟩

/-! ### The bytes of an expansion -/

/-- The bytes a `byteFree` element puts on the wire: those of its panel command. -/
def microBytes (c : Config) : Micro → List WireByte
  | .call i => panelBytes c i
  | _ => []

/-- The element is no event that puts a byte on the wire or drives data/command-select: of the events that stand in the
expansions themselves, SLEEP's apart, there are only those of the reset pulse and delays. -/
def byteFree : Micro → Bool
  | .emit (.rst _) => true
  | .emit (.delay _) => true
  | .emit _ => false
  | _ => true

@[simp] theorem byteFree_call (i : Instr) : byteFree (.call i) = true := rfl

@[simp] theorem byteFree_poll : byteFree .poll = true := rfl

/-- A list whose own events are no bytes puts on the wire the bytes of its panel commands, in order. -/
theorem byteTraceFrom_flatMap_microEvents {ms : List Micro} (h : ∀ m ∈ ms, byteFree m = true) (c : Config)
    (d : Option Level) : byteTraceFrom d (ms.flatMap (microEvents c)) = ms.flatMap (microBytes c) := by
  induction ms generalizing d with
  | nil => rfl
  | cons m ms ih =>
    obtain ⟨hm, hms⟩ := List.forall_mem_cons.mp h
    rw [List.flatMap_cons, List.flatMap_cons, byteTraceFrom_append, ih hms]
    congr 1
    cases m with
    | emit e =>
      cases e with
      | rst | delay => rfl
      | _ => exact absurd hm nofun
    | poll => rfl
    | write w => rfl
    | call i => exact byteTraceFrom_panelEvents d c i

theorem initBody_byteFree (f : Bool) : ∀ m ∈ initBody f, byteFree m = true := by
  cases f <;> decide

theorem nestedInit_byteFree (s : State) : ∀ m ∈ nestedInit s, byteFree m = true := by
  unfold nestedInit
  split
  · exact initBody_byteFree _
  · nofun

theorem showOneBit_byteFree (plane : List Byte) (s : State) : ∀ m ∈ showOneBit plane s, byteFree m = true := by
  simp [showOneBit, setCountersOrigin, loadLut, activateAndWait]

theorem recountBeforeRed_byteFree (c : Config) : ∀ m ∈ recountBeforeRed c, byteFree m = true := by
  unfold recountBeforeRed
  split
  · decide
  · nofun

theorem showFourLevel_byteFree (bw red : List Byte) (s : State) :
    ∀ m ∈ showFourLevel bw red s, byteFree m = true := by
  simp only [showFourLevel, List.forall_mem_append]
  simpa [setCountersOrigin, loadLut, activateAndWait] using recountBeforeRed_byteFree s.cfg

theorem nestedInit_bytes (s : State) : (nestedInit s).flatMap (microBytes s.cfg) = nestedInitBytes s := by
  unfold nestedInit nestedInitBytes
  split
  · simp [initBody, resetPulse, pinRst, delay, microBytes, initBytes, panelBytes, panelEvents,
      byteTraceFrom_commandEvents, Config.duc2Init]
  · rfl

theorem setCountersOrigin_bytes (c : Config) : setCountersOrigin.flatMap (microBytes c) = originBytes c := by
  simp [setCountersOrigin, microBytes, panelBytes, panelEvents, byteTraceFrom_commandEvents, originBytes]

theorem showOneBit_bytes (plane : List Byte) (s : State) :
    (showOneBit plane s).flatMap (microBytes s.cfg) = oneBitBytes s plane := by
  simp [showOneBit, setCountersOrigin_bytes, loadLut, activateAndWait, microBytes, panelBytes, panelEvents,
    byteTraceFrom_commandEvents, byteTraceFrom_planeEvents, oneBitBytes]

theorem showFourLevel_bytes (bw red : List Byte) (s : State) :
    (showFourLevel bw red s).flatMap (microBytes s.cfg) = fourLevelBytes s bw red := by
  have hrecount : (recountBeforeRed s.cfg).flatMap (microBytes s.cfg) =
      if s.cfg.recountBeforeRed then originBytes s.cfg else [] := by
    unfold recountBeforeRed
    split
    · exact setCountersOrigin_bytes s.cfg
    · rfl
  simp [showFourLevel, setCountersOrigin_bytes, hrecount, loadLut, activateAndWait, microBytes, panelBytes, panelEvents,
    byteTraceFrom_commandEvents, byteTraceFrom_planeEvents, fourLevelBytes, Config.duc2FourLevel]

end Sys2Proof.Machine

section

open Sys2Proof Sys2Proof.Machine Sys2Proof.Safety

/-- Settles O57: below the length and the capacity the byte that stands there is the port's byte. -/
theorem memoryPortsAnswerBytes : Obligations.MemoryPortsAnswerBytes := by
  intro s rest j hidle
  refine ⟨fun b h hcap hlen hb => ?_, fun b h hcap hlen hb => ?_, fun b h hcap hlen hb => ?_⟩
  all_goals
    rw [step_of_input h]
    exact memRead_value hidle hcap ((if_pos hlen).trans hb)

end
end

section
/-! PROOFS. The RAM images after a DISPLAY_FRAME (O41): where the last write of a plane stands in the byte trace that
the operation ends with (20_memory R47). -/

namespace Sys2Proof.Machine

open Sys2Proof.Safety

/-! ### RAM images -/

theorem afterLastCommand_of_not_mem {op : Byte} {xs : List WireByte} (h : (.cmd, op) ∉ xs) :
    afterLastCommand op xs = none := by
  induction xs with
  | nil => rfl
  | cons x xs ih =>
    obtain ⟨hx, hxs⟩ := not_or.mp (mt List.mem_cons.mpr h)
    simp [afterLastCommand, ih hxs, Ne.symm hx]

theorem afterLastCommand_append_cons {op : Byte} {post : List WireByte} (h : (.cmd, op) ∉ post)
    (pre : List WireByte) : afterLastCommand op (pre ++ (.cmd, op) :: post) = some post := by
  induction pre with
  | nil => simp [afterLastCommand, afterLastCommand_of_not_mem h]
  | cons x pre ih => simp [afterLastCommand, ih]

@[simp] theorem command_mem_commandBytes {op op' : Byte} {args : List Byte} :
    (FrameKind.cmd, op) ∈ commandBytes op' args ↔ op = op' := by
  simp [commandBytes]

/-- The RAM image is the plane whose write is followed by another command and by no other write with that opcode
(20_memory R47). -/
theorem ramImage_of_byteTrace {op o : Byte} {t : List WireEvent} {pre more : List WireByte} {plane args : List Byte}
    (ht : byteTrace t = pre ++ (commandBytes op plane ++ (commandBytes o args ++ more)))
    (hlast : (.cmd, op) ∉ commandBytes o args ++ more) : ramImage op t = some plane := by
  have hafter : afterLastCommand op (byteTrace t) =
      some (plane.map (fun b => (.data, b)) ++ (commandBytes o args ++ more)) := by
    rw [ht, commandBytes, List.cons_append]
    refine afterLastCommand_append_cons (fun hmem => ?_) pre
    exact (List.mem_append.mp hmem).elim (by simp) hlast
  have hdata : ∀ x ∈ plane.map (fun b => (FrameKind.data, b)), (x.1 != .cmd) = true := by
    simp
  simp [ramImage, hafter, List.takeWhile_append_of_pos hdata, commandBytes, List.filter_map, Function.comp_def]

/-- The opcodes of the commands of a display, pairwise distinct (40_wire_framing R99). -/
theorem Opcodes.nodup_display {c : Config} (h : c.Admitted) :
    [c.op.displayUpdateControl2, c.op.setRamXCounter, c.op.setRamYCounter, c.op.writeRamBw, c.op.writeRamRed,
      c.op.writeLut, c.op.masterActivation].Nodup := by
  obtain ⟨-, -, -, -, -, hnodup, -⟩ := h
  exact hnodup.sublist ((List.take_sublist 7 _).trans (List.drop_sublist 14 c.op.toList))

/-- No command that follows the BW plane of a display has the opcode of its write. -/
theorem Opcodes.writeRamBw_ne {c : Config} (h : c.Admitted) :
    c.op.writeRamBw ≠ c.op.setRamXCounter ∧ c.op.writeRamBw ≠ c.op.setRamYCounter ∧
      c.op.writeRamBw ≠ c.op.writeRamRed ∧ c.op.writeRamBw ≠ c.op.writeLut ∧
      c.op.writeRamBw ≠ c.op.displayUpdateControl2 ∧ c.op.writeRamBw ≠ c.op.masterActivation := by
  have hnodup := nodup_display h
  grind

/-- No command that follows the RED plane of a display has the opcode of its write. -/
theorem Opcodes.writeRamRed_ne {c : Config} (h : c.Admitted) :
    c.op.writeRamRed ≠ c.op.writeLut ∧ c.op.writeRamRed ≠ c.op.displayUpdateControl2 ∧
      c.op.writeRamRed ≠ c.op.masterActivation := by
  have hnodup := nodup_display h
  grind

theorem ramImage_oneBit {s : State} (h : s.cfg.Admitted) {t : List WireEvent} {pre : List WireByte} {plane : List Byte}
    (ht : byteTrace t = pre ++ oneBitBytes s plane) : ramImage s.cfg.op.writeRamBw t = some plane := by
  have hwrite : byteTrace t = (pre ++ originBytes s.cfg) ++ (commandBytes s.cfg.op.writeRamBw plane ++
      (commandBytes s.cfg.op.writeLut (s.cfg.lut .oneBit s.prefFast) ++
        commandBytes s.cfg.op.masterActivation [])) := by
    simp only [ht, oneBitBytes, List.append_assoc]
  exact ramImage_of_byteTrace hwrite (by simp [Opcodes.writeRamBw_ne h])

/-- What follows the RED plane of a FourLevel display (41_protocol_driver R134). -/
def afterRedBytes (s : State) : List WireByte :=
  commandBytes s.cfg.op.writeLut (s.cfg.lut .fourLevel s.prefFast) ++
    (commandBytes s.cfg.op.displayUpdateControl2 [0xC7] ++ commandBytes s.cfg.op.masterActivation [])

theorem fourLevelBytes_eq (s : State) (bw red : List Byte) :
    fourLevelBytes s bw red = originBytes s.cfg ++ (commandBytes s.cfg.op.writeRamBw bw ++
      ((if s.cfg.recountBeforeRed then originBytes s.cfg else []) ++
        (commandBytes s.cfg.op.writeRamRed red ++ afterRedBytes s))) := by
  simp only [fourLevelBytes, afterRedBytes, List.append_assoc]

theorem ramImage_fourLevel_red {s : State} (h : s.cfg.Admitted) {t : List WireEvent} {pre : List WireByte}
    {bw red : List Byte} (ht : byteTrace t = pre ++ fourLevelBytes s bw red) :
    ramImage s.cfg.op.writeRamRed t = some red := by
  rw [fourLevelBytes_eq, ← List.append_assoc, ← List.append_assoc, ← List.append_assoc] at ht
  exact ramImage_of_byteTrace ht (by simp [Opcodes.writeRamRed_ne h])

/-- With the recount the command after the BW plane is the first of the origin, without it the write of the RED
plane. -/
theorem ramImage_fourLevel_bw {s : State} (h : s.cfg.Admitted) {t : List WireEvent} {pre : List WireByte}
    {bw red : List Byte} (ht : byteTrace t = pre ++ fourLevelBytes s bw red) :
    ramImage s.cfg.op.writeRamBw t = some bw := by
  rw [fourLevelBytes_eq, ← List.append_assoc] at ht
  split at ht
  · have hrecount : byteTrace t = (pre ++ originBytes s.cfg) ++ (commandBytes s.cfg.op.writeRamBw bw ++
        (commandBytes s.cfg.op.setRamXCounter s.cfg.arg.xOrigin ++
          (commandBytes s.cfg.op.setRamYCounter s.cfg.arg.yOrigin ++
            (commandBytes s.cfg.op.writeRamRed red ++ afterRedBytes s)))) := by
      simp only [ht, originBytes, List.append_assoc]
    exact ramImage_of_byteTrace hrecount (by simp [afterRedBytes, Opcodes.writeRamBw_ne h])
  · exact ramImage_of_byteTrace ht (by simp [afterRedBytes, Opcodes.writeRamBw_ne h])

/-! ### A display from its start -/

theorem whenAttached_busy {s t : State} {o : Outcome} (h : whenAttached s o = .next t) (ht : busyOp t = true) :
    o = .next t := by
  unfold whenAttached at h
  split at h
  · exact h
  · cases h
    exact absurd ht nofun

theorem whenAwake_busy {s t : State} {o : Outcome} (h : whenAwake s o = .next t) (ht : busyOp t = true) :
    o = .next t := by
  unfold whenAwake at h
  split at h
  · cases h
    exact absurd ht nofun
  · exact h

theorem whenTagged_next {m : ColorMode} {s t : State} {o : Outcome} (h : whenTagged m s o = .next t) :
    o = .next t := by
  unfold whenTagged at h
  split at h
  · exact h
  · cases h

theorem displayFrame1B_started {s t : State} (hidle : s.seq = .idle) (h : exec .displayFrame1B s = .next t)
    (ht : busyOp t = true) : t = { s with seq := .busy .displayFrame1B 0 false (displayFrame1BBody s) } := by
  have hguards := (whenIdle_of_idle _ hidle).symm.trans h
  cases whenAttached_busy (whenTagged_next (whenAwake_busy hguards ht)) ht
  rfl

theorem displayFrame4L_started {s t : State} (hidle : s.seq = .idle) (h : exec .displayFrame4L s = .next t)
    (ht : busyOp t = true) : t = { s with seq := .busy .displayFrame4L 0 false (displayFrame4LBody s) } := by
  have hguards := (whenIdle_of_idle _ hidle).symm.trans h
  cases whenAttached_busy (whenTagged_next (whenAwake_busy hguards ht)) ht
  rfl

/-- The bytes an operation ends with, where it starts on a list whose own events are no bytes. -/
theorem bytesAtEnd_of_started {s : State} {op : Instr} {body : List Micro} (h : ∀ m ∈ body, byteFree m = true) :
    bytesAtEnd { s with seq := .busy op 0 false body } =
      byteTrace s.trace ++ body.flatMap (microBytes s.cfg) := by
  simp [bytesAtEnd, Seq.pending, byteTrace, byteTraceFrom_append, byteTraceFrom_flatMap_microEvents h]

theorem displayFrame1BBody_bytesAtEnd (s : State) (op : Instr) :
    bytesAtEnd { s with seq := .busy op 0 false (displayFrame1BBody s) } =
      byteTrace s.trace ++ nestedInitBytes s ++ oneBitBytes s (frameBytes s) := by
  have hfree : ∀ m ∈ displayFrame1BBody s, byteFree m = true := by
    simp only [displayFrame1BBody, List.forall_mem_append]
    exact ⟨⟨nestedInit_byteFree s, showOneBit_byteFree _ s⟩, by decide⟩
  rw [bytesAtEnd_of_started hfree]
  simp [displayFrame1BBody, nestedInit_bytes, showOneBit_bytes, microBytes]

theorem displayFrame4LBody_bytesAtEnd (s : State) (op : Instr) :
    bytesAtEnd { s with seq := .busy op 0 false (displayFrame4LBody s) } =
      byteTrace s.trace ++ nestedInitBytes s ++
        fourLevelBytes s (deriveBw (frameBytes s)) (deriveRed (frameBytes s)) := by
  have hfree : ∀ m ∈ displayFrame4LBody s, byteFree m = true := by
    simp only [displayFrame4LBody, List.forall_mem_append]
    exact ⟨⟨⟨nestedInit_byteFree s, by simp [byteFree]⟩, showFourLevel_byteFree _ _ s⟩, by decide⟩
  rw [bytesAtEnd_of_started hfree]
  simp [displayFrame4LBody, nestedInit_bytes, showFourLevel_bytes, microBytes]

theorem nestedInit_writes (s : State) :
    (nestedInit s).filterMap Micro.write? =
      if s.dstate = .uninitialized then [.panelKnown, .ready] else [] := by
  unfold nestedInit
  split <;> rfl

theorem showFourLevel_writes (bw red : List Byte) (s : State) :
    (showFourLevel bw red s).filterMap Micro.write? = [] := by
  unfold showFourLevel recountBeforeRed
  split <;> rfl

theorem displayFrame4LBody_writes (s : State) :
    (displayFrame4LBody s).filterMap Micro.write? =
      (if s.dstate = .uninitialized then [.panelKnown, .ready] else []) ++
        [.planes (deriveBw (frameBytes s)) (deriveRed (frameBytes s)), .refreshed, .consumed] := by
  simp [displayFrame4LBody, nestedInit_writes, showFourLevel_writes, Micro.write?]

/-- Whatever was written before, the planes are those of the last write of them (41_protocol_driver R134). -/
theorem displayFrame4LBody_planesAtEnd (s : State) (op : Instr) :
    (registersAtEnd { s with seq := .busy op 0 false (displayFrame4LBody s) }).plBw =
        Memory.ofBytes (deriveBw (frameBytes s)) ∧
      (registersAtEnd { s with seq := .busy op 0 false (displayFrame4LBody s) }).plRed =
        Memory.ofBytes (deriveRed (frameBytes s)) := by
  simp [registersAtEnd, Seq.pending, displayFrame4LBody_writes, applyWrites, State.registers]

theorem frameBytes_getElem? {s : State} {i : Nat} {b : Byte} (hi : i < s.fbLen.toNat) (hb : s.fb.read i = some b) :
    (frameBytes s)[i]? = some b := by
  simp [frameBytes, hi, hb]

end Sys2Proof.Machine

section

open Sys2Proof Sys2Proof.Machine Sys2Proof.Safety

/-- Settles O41: the bytes and the planes the display ends with are fixed when it starts, and the last write of each
plane is followed by a command that is no such write. -/
theorem displayedPlanesHoldTheFrame : Obligations.DisplayedPlanesHoldTheFrame := by
  refine ⟨fun s => ⟨length_frameBytes s, fun i b => frameBytes_getElem?⟩, ?_⟩
  intro s t u i levels hadmitted hidle hexec hbusy hrun hend
  obtain ⟨hbytes, hregisters⟩ := run_unfailing_end levels hrun hend
  constructor
  · rintro rfl
    rw [displayFrame1B_started hidle hexec hbusy, displayFrame1BBody_bytesAtEnd] at hbytes
    exact ramImage_oneBit hadmitted hbytes
  · rintro rfl
    rw [displayFrame4L_started hidle hexec hbusy] at hbytes hregisters
    rw [displayFrame4LBody_bytesAtEnd] at hbytes
    obtain ⟨hbw, hred⟩ := displayFrame4LBody_planesAtEnd s .displayFrame4L
    rw [← hregisters] at hbw hred
    exact ⟨ramImage_fourLevel_bw hadmitted hbytes, ramImage_fourLevel_red hadmitted hbytes, hbw, hred⟩

end
end

section
/-! PROOFS. The encodings (O1 to O4): the fields of a command word, the decoder of panel commands as a table of opcodes
and operand readers, and the byte trace of a panel command as its encoding (30_encoding R65 to R74). -/

namespace Sys2Proof

open Sys2Proof.Machine Sys2Proof.Safety

/-! ### The fields of a command word (30_encoding R65) -/

@[simp] theorem wordRsv_commandWord (fast : Bool) (mode : BitVec 2) (opc : BitVec 4) :
    wordRsv (commandWord fast mode opc) = false := by
  revert fast mode opc
  decide

@[simp] theorem wordFast_commandWord (fast : Bool) (mode : BitVec 2) (opc : BitVec 4) :
    wordFast (commandWord fast mode opc) = fast := by
  revert fast mode opc
  decide

@[simp] theorem wordMode_commandWord (fast : Bool) (mode : BitVec 2) (opc : BitVec 4) :
    wordMode (commandWord fast mode opc) = mode := by
  revert fast mode opc
  decide

@[simp] theorem wordOpc_commandWord (fast : Bool) (mode : BitVec 2) (opc : BitVec 4) :
    wordOpc (commandWord fast mode opc) = opc := by
  revert fast mode opc
  decide

/-- A word with `RSV` 0 is the word of its other three fields. -/
theorem commandWord_of_fields {w : Byte} (h : wordRsv w = false) :
    commandWord (wordFast w) (wordMode w) (wordOpc w) = w := by
  revert w
  decide

@[simp] theorem byMode_zero (a b c : Instr) : byMode 0#2 a b c = a := rfl

@[simp] theorem byMode_one (a b c : Instr) : byMode 1#2 a b c = b := rfl

/-! ### The panel commands as a table -/

/-- The operand reader of a panel command. -/
abbrev OperandReader := List Byte → Except DecodeError Instr

/-- The 22 panel commands, each an opcode and the reader of its operands (40_wire_framing R99). -/
def panelTable (c : Config) : List (Byte × OperandReader) :=
  [(c.op.swReset, fixedOperands [] .swReset),
   (c.op.autoWriteRed, fixedOperands c.arg.autoWriteRed .autoWriteRed),
   (c.op.autoWriteBw, fixedOperands c.arg.autoWriteBw .autoWriteBw),
   (c.op.gateSetting, fixedOperands c.arg.gateSetting .gateSetting),
   (c.op.gateVoltage, fixedOperands c.arg.gateVoltage .gateVoltage),
   (c.op.sourceVoltage, fixedOperands c.arg.sourceVoltage .sourceVoltage),
   (c.op.dataEntryMode, fixedOperands c.arg.dataEntryMode .dataEntryMode),
   (c.op.borderWaveform, fixedOperands c.arg.borderWaveform .borderWaveform),
   (c.op.boosterStrength, fixedOperands c.arg.boosterStrength .boosterStrength),
   (c.op.tempSensor, fixedOperands c.arg.tempSensor .tempSensor),
   (c.op.vcom, fixedOperands c.arg.vcom .vcom),
   (c.op.displayOption, displayOptionOperands c),
   (c.op.ramXWindow, fixedOperands c.arg.ramXWindow .ramXWindow),
   (c.op.ramYWindow, fixedOperands c.arg.ramYWindow .ramYWindow),
   (c.op.displayUpdateControl2, duc2Operands c),
   (c.op.setRamXCounter, fixedOperands c.arg.xOrigin .setRamXCounter),
   (c.op.setRamYCounter, fixedOperands c.arg.yOrigin .setRamYCounter),
   (c.op.writeRamBw, fun bs => ownOperands c (.writeRamBw bs)),
   (c.op.writeRamRed, fun bs => ownOperands c (.writeRamRed bs)),
   (c.op.writeLut, fun bs => ownOperands c (.writeLut bs)),
   (c.op.masterActivation, fixedOperands [] .masterActivation),
   (c.op.deepSleep, fixedOperands [Config.sleepCheck] .deepSleep)]

/-- The reading of operands by the first row of a table with the opcode. -/
def readByTable (op : Byte) (bs : List Byte) : List (Byte × OperandReader) → Except DecodeError Instr
  | [] => .error (.unknownOpcode op)
  | row :: rows => if op = row.1 then row.2 bs else readByTable op bs rows

theorem decodePanel_eq_readByTable (c : Config) (op : Byte) (bs : List Byte) :
    decodePanel c op bs = readByTable op bs (panelTable c) := rfl

theorem panelTable_opcodes (c : Config) : (panelTable c).map Prod.fst = c.op.toList := rfl

/-- Where the opcodes of a table are distinct, each row reads its own commands. -/
theorem readByTable_of_mem {rows : List (Byte × OperandReader)} (hnodup : (rows.map Prod.fst).Nodup) {op : Byte}
    {read : OperandReader} (hmem : (op, read) ∈ rows) (bs : List Byte) : readByTable op bs rows = read bs := by
  induction rows with
  | nil => exact absurd hmem List.not_mem_nil
  | cons row rows ih =>
    obtain ⟨hfresh, hrows⟩ := List.nodup_cons.mp hnodup
    obtain rfl | hrest := List.mem_cons.mp hmem
    · exact if_pos rfl
    · have hne : op ≠ row.1 := fun heq => hfresh (heq ▸ List.mem_map_of_mem (f := Prod.fst) hrest)
      rw [readByTable, if_neg hne, ih hrows hrest]

/-- In an admitted configuration a panel command is read by the row of its opcode (30_encoding R71). -/
theorem decodePanel_of_row {c : Config} (h : c.Admitted) {op : Byte} {read : OperandReader}
    (hrow : (op, read) ∈ panelTable c) (bs : List Byte) : decodePanel c op bs = read bs := by
  obtain ⟨-, -, -, -, -, hnodup, -⟩ := h
  exact (decodePanel_eq_readByTable c op bs).trans (readByTable_of_mem (panelTable_opcodes c ▸ hnodup) hrow bs)

/-! ### Decoding what was encoded -/

/-- The framing of a panel command is taken off again (30_encoding R70). -/
theorem decode_panelItems (c : Config) (op : Byte) (args : List Byte) :
    decode c (panelItems op args) = decodePanel c op args := by
  simp [decode, panelItems, decodeWire, Function.comp_def]

theorem decode_panelItems_of_row {c : Config} (h : c.Admitted) {op : Byte} {read : OperandReader}
    (hrow : (op, read) ∈ panelTable c) (args : List Byte) : decode c (panelItems op args) = read args :=
  (decode_panelItems c op args).trans (decodePanel_of_row h hrow args)

theorem decode_fixedOperands {c : Config} (h : c.Admitted) {op : Byte} {args : List Byte} {i : Instr}
    (hrow : (op, fixedOperands args i) ∈ panelTable c) : decode c (panelItems op args) = .ok i :=
  (decode_panelItems_of_row h hrow args).trans (if_pos rfl)

theorem ownOperands_of_wellFormed {c : Config} {i : Instr} (h : i.wellFormed c = true) : ownOperands c i = .ok i :=
  if_pos h

theorem decode_ownOperands {c : Config} (h : c.Admitted) {op : Byte} {args : List Byte} {command : List Byte → Instr}
    (hrow : (op, fun bs => ownOperands c (command bs)) ∈ panelTable c) (hwf : (command args).wellFormed c = true) :
    decode c (panelItems op args) = .ok (command args) :=
  (decode_panelItems_of_row h hrow args).trans (ownOperands_of_wellFormed hwf)

/-- The two display-option lists differ, so the list tells the preference (40_wire_framing R111). -/
theorem displayOptionOperands_displayOption {c : Config} (h : c.Admitted) (fast : Bool) :
    displayOptionOperands c (c.displayOption fast) = .ok (.displayOption fast) := by
  obtain ⟨-, -, -, -, -, -, -, -, -, -, hdiffer, -⟩ := h
  cases fast with
  | false => exact if_pos rfl
  | true => exact (if_neg hdiffer.symm).trans (if_pos rfl)

theorem decode_encode_panel {c : Config} (h : c.Admitted) {i : Instr} (hi : isPanelCommand i = true)
    (hwf : i.wellFormed c = true) : decode c (encode c i) = .ok i := by
  cases i <;> simp only [isPanelCommand, Bool.false_eq_true] at hi
  case displayOption fast =>
    exact (decode_panelItems_of_row h (by simp [panelTable]) _).trans (displayOptionOperands_displayOption h fast)
  case displayUpdateControl2 v =>
    exact (decode_panelItems_of_row (read := duc2Operands c) h (by simp [panelTable]) [v]).trans
      (ownOperands_of_wellFormed hwf)
  case writeRamBw => exact decode_ownOperands (command := .writeRamBw) h (by simp [panelTable]) hwf
  case writeRamRed => exact decode_ownOperands (command := .writeRamRed) h (by simp [panelTable]) hwf
  case writeLut => exact decode_ownOperands (command := .writeLut) h (by simp [panelTable]) hwf
  all_goals exact decode_fixedOperands h (by simp [panelTable])

theorem decode_encode_host (c : Config) {i : Instr} (hi : isPanelCommand i = false) :
    decode c (encode c i) = .ok i := by
  cases i <;> simp only [isPanelCommand, Bool.true_eq_false] at hi
  case init fast => simp [encode, decode, decodeWord]
  all_goals rfl

theorem decode_encode {c : Config} (h : c.Admitted) {i : Instr} (hwf : i.wellFormed c = true) :
    decode c (encode c i) = .ok i := by
  cases hi : isPanelCommand i with
  | false => exact decode_encode_host c hi
  | true => exact decode_encode_panel h hi hwf

/-! ### What a panel command emits -/

theorem panelItems_eq_commandEvents (d : Option Level) (op : Byte) (args : List Byte) :
    panelItems op args = .wire (byteTraceFrom d (commandEvents op args)) := by
  rw [byteTraceFrom_commandEvents]
  rfl

/-- A bulk frame carries the same data bytes as single-byte frames do (30_encoding R70). -/
theorem panelItems_eq_planeEvents (d : Option Level) (op : Byte) (p : List Byte) :
    panelItems op p = .wire (byteTraceFrom d (planeEvents op p)) := by
  rw [byteTraceFrom_planeEvents]
  rfl

theorem encode_eq_byteTrace_panelEvents (c : Config) {i : Instr} (d : Option Level) (hi : isPanelCommand i = true) :
    encode c i = .wire (byteTraceFrom d (panelEvents c i)) := by
  cases i <;> simp only [isPanelCommand, Bool.false_eq_true] at hi
  case writeRamBw | writeRamRed => exact panelItems_eq_planeEvents d _ _
  all_goals exact panelItems_eq_commandEvents d _ _

end Sys2Proof

section

open Sys2Proof Sys2Proof.Machine Sys2Proof.Safety

/-- Settles O1: a command word gives its fields back, a panel command is read by the one row with its opcode. -/
theorem decodeOfEncodeIsIdentity : Obligations.DecodeOfEncodeIsIdentity :=
  fun _ _ hadmitted hwf => decode_encode hadmitted hwf

/-- Settles O4, frame by frame. -/
theorem emittedBytesAreTheEncoding : Obligations.EmittedBytesAreTheEncoding :=
  fun c _ d hpanel => encode_eq_byteTrace_panelEvents c d hpanel

/-- Settles O2, word by word. -/
theorem writtenCommandWordsDecode : Obligations.WrittenCommandWordsDecode :=
  ⟨rfl, rfl, rfl, rfl, rfl, rfl, rfl, rfl, rfl, rfl, rfl, rfl, rfl, rfl, rfl, rfl, rfl⟩

/-- Settles O3: with `RSV` 0 the word is the word of its fields, of which the decoder reads those its `OPC` uses. -/
theorem unusedWordBitsAreIgnored : Obligations.UnusedWordBitsAreIgnored := by
  intro w hrsv
  have hword := commandWord_of_fields (w := w) hrsv
  have hfields {mode : BitVec 2} {opc : BitVec 4} (hmode : w.extractLsb' 4 2 = mode) (hopc : w.extractLsb' 0 4 = opc) :
      decodeWord w = decodeWord (commandWord (w.getLsbD 6) mode opc) := by
    rw [← hmode, ← hopc]
    exact congrArg decodeWord hword.symm
  refine ⟨fun hopc => ?_, fun hopc => ?_, fun hopc hmode => ?_, fun hopc hmode => ?_, fun hopc hmode => ?_,
    fun hopc hmode => ?_, fun hopc => ?_, fun hopc => ?_, fun hopc hmode => ?_, fun hopc hmode => ?_, fun hopc => ?_⟩
  case refine_3 | refine_4 | refine_5 | refine_6 | refine_9 | refine_10 =>
    rw [hfields hmode hopc]
    simp [decodeWord]
  all_goals
    rw [hfields rfl hopc]
    simp [decodeWord]

end
end

section
/-! PROOFS. The instruction a step runs (O5), and what it ignores while an operation runs (O52). -/

namespace Sys2Proof.Machine

open Sys2Proof.Safety

theorem hostWrite_busy {s : State} {a : BitVec 6} (d : BitVec 32) (ha : (regAt a).isSome = true)
    (hbusy : s.seq ≠ .idle) : hostWrite a d s = .next s := by
  obtain ⟨r, hr⟩ := Option.isSome_iff_exists.mp ha
  simp only [hostWrite, hr, (busyOp_iff_not_idle s).mpr hbusy, if_true]

theorem imgWrite_busy {s : State} (x y : BitVec 16) (v : Byte) (hbusy : s.seq ≠ .idle) :
    imgWrite x y v s = .next s := by
  simp only [imgWrite, (busyOp_iff_not_idle s).mpr hbusy, if_true]

/-- A write to `CMD` while idle runs the instruction of its low byte (30_encoding R74; 10_state R27). -/
theorem react_command {s : State} {d : BitVec 32} {i : Instr} (hidle : s.seq = .idle)
    (hdecode : decodeWord (commandOf d) = i) : react (.hostWrite 0 d) s = exec i s := by
  subst hdecode
  exact hostWrite_idle (a := 0) (r := .cmd) d rfl hidle

end Sys2Proof.Machine

section

open Sys2Proof Sys2Proof.Machine Sys2Proof.Safety

/-- Settles O5, one clause for each way a step comes to `exec`. -/
theorem stepRunsDecodedInstruction : Obligations.StepRunsDecodedInstruction := by
  refine ⟨fun s d rest i h hidle hdecode _ => ?_, fun s rest i h hdecode => ?_,
    fun s l f rest op idx touched i more h hseq => ?_⟩
  · exact (step_of_input h).trans (react_command hidle (Except.ok.inj hdecode))
  · cases hdecode
    exact step_of_input h
  · exact (step_tick h).trans (advance_call l f hseq)

/-- Settles O52: every host access tests `BUSY_OP` first. -/
theorem busyIgnoresHostWrites : Obligations.BusyIgnoresHostWrites :=
  fun _ _ hbusy => ⟨fun _ d ha h => (step_of_input h).trans (hostWrite_busy d ha hbusy),
    fun x y v h => (step_of_input h).trans (imgWrite_busy x y v hbusy),
    fun i hi => exec_host_busy i hi hbusy⟩

end
end

section
/-! PROOFS. The pseudo-operations DISPLAY.m (O42): a list the sequencer has before it ends under quiet turns, an
operation the host presents runs to that end, and so do ENCODE and DISPLAY_FRAME one after the other (30_encoding R75,
R76). -/

namespace Sys2Proof.Machine

open Sys2Proof.Safety

/-! ### Quiet turns come to the end of an operation -/

/-- A turn whose answer is `t` is a run of one quiet turn to `t`. -/
theorem runsTo_quietTurn {s t : State}
    (h : ∀ ins, advance (!s.cfg.busyActive) false (s.taken ins s.freeCount) = .next { t with inputs := ins }) :
    runsTo s (quietTurns s.cfg 1) t :=
  runsTo_cons h (runsTo_nil t)

theorem runsTo_quiet_append {s t u : State} {c : Config} {m n : Nat} (hst : runsTo s (quietTurns c m) t)
    (htu : runsTo t (quietTurns c n) u) : runsTo s (quietTurns c (m + n)) u := by
  rw [quietTurns, List.replicate_add]
  exact runsTo_append hst htu

/-- The first element of a list is got over by some number of quiet turns: a wait by one, a panel command by the turn
that takes it up and one for each of its events. -/
theorem runsTo_tail {s : State} {op : Instr} {idx : Nat} {touched : Bool} {m : Micro} {rest : List Micro}
    (h : s.seq = .busy op idx touched (m :: rest)) :
    ∃ n t, runsTo s (quietTurns s.cfg n) t ∧ t.cfg = s.cfg ∧ ∃ idx' touched', t.seq = .busy op idx' touched' rest := by
  cases m with
  | emit e =>
    refine ⟨1, record e { s with seq := .busy op (idx + 1) true rest, done := false },
      runsTo_quietTurn fun ins => advance_emit (s := s.taken ins s.freeCount) _ h, rfl, _, _, rfl⟩
  | poll =>
    refine ⟨1, record (.busy (!s.cfg.busyActive)) { s with seq := .busy op (idx + 1) true rest, done := false },
      runsTo_quietTurn fun ins => ?_, rfl, _, _, rfl⟩
    rw [advance_poll (s := s.taken ins s.freeCount) _ h, State.taken]
    simp only [pollAgain_idle]
    rfl
  | write w =>
    refine ⟨1, applyWrite w { s with seq := .busy op (idx + 1) touched rest, done := false },
      runsTo_quietTurn fun ins => ?_, by simp, idx + 1, touched, by simp⟩
    rw [advance_write (s := s.taken ins s.freeCount) _ _ h]
    cases w <;> rfl
  | call i =>
    cases hi : isPanelCommand i with
    | false =>
      refine ⟨1, { s with seq := .busy op idx touched rest, done := false },
        runsTo_quietTurn fun ins => ?_, rfl, _, _, rfl⟩
      rw [advance_call (s := s.taken ins s.freeCount) _ _ h]
      exact exec_host_busy i hi nofun
    | true =>
      have htaken : runsTo s (quietTurns s.cfg 1)
          { s with seq := .busy op idx touched ((panelEvents s.cfg i).map Micro.emit ++ rest), done := false } :=
        runsTo_quietTurn fun ins => (advance_call (s := s.taken ins s.freeCount) _ _ h).trans (exec_panel_busy i hi rfl)
      by_cases hnone : panelEvents s.cfg i = []
      · exact ⟨1, _, htaken, rfl, idx, touched, by simp [hnone]⟩
      · exact ⟨_, _, runsTo_quiet_append htaken (runsTo_emits (panelEvents s.cfg i) _ rfl hnone), rfl, _, _, rfl⟩

/-- An operation in progress ends without error after some number of quiet turns (70_reset_and_hazards R201). -/
theorem runsTo_completion {s : State} {op : Instr} {idx : Nat} {touched : Bool} {rest : List Micro}
    (h : s.seq = .busy op idx touched rest) :
    ∃ n u, runsTo s (quietTurns s.cfg n) u ∧ u.seq = .idle ∧ u.err = .none := by
  induction rest generalizing s idx touched with
  | nil =>
    exact ⟨1, complete { s with done := false },
      runsTo_quietTurn fun ins => advance_end (s := s.taken ins s.freeCount) _ _ h, rfl, rfl⟩
  | cons m rest ih =>
    obtain ⟨n, t, hhead, hcfg, idx', touched', hseq⟩ := runsTo_tail h
    obtain ⟨n', u, htail, hend⟩ := ih hseq
    rw [hcfg] at htail
    exact ⟨n + n', u, runsTo_quiet_append hhead htail, hend⟩

/-- Quiet turns are turns with no failing event, so what a run of them ends with was fixed before it. -/
theorem runsTo_quiet_end {s u : State} {n : Nat} (h : runsTo s (quietTurns s.cfg n) u) (hu : u.seq = .idle) :
    byteTrace u.trace = bytesAtEnd s ∧ u.registers = registersAtEnd s := by
  have hturns : quietTurns s.cfg n = unfailingTurns (List.replicate n (!s.cfg.busyActive)) := by
    simp [quietTurns, unfailingTurns]
  have hrun := h []
  rw [hturns, List.append_nil, unfailingTurns, List.length_map] at hrun
  exact run_unfailing_end (u := { u with inputs := [] }) _ hrun hu

/-! ### An operation the host presents -/

theorem commandOf_setWidth (w : Byte) : commandOf (w.setWidth 32) = w := by
  ext i hi
  simp [commandOf, hi, Nat.lt_of_lt_of_le hi (by decide : 8 ≤ 32)]

/-- The input that presents an operation runs it: the block decodes what the host encoded (30_encoding R65). -/
theorem react_present {s : State} {c : Config} {i : Instr} {a : Input} (hidle : s.seq = .idle)
    (h : present c i = some a) : react a s = exec i s := by
  cases hi : isPanelCommand i with
  | true => simp [present, encode_eq_byteTrace_panelEvents c none hi] at h
  | false =>
    have hdecode := decode_encode_host c hi
    unfold present at h
    cases hcode : encode c i with
    | command w =>
      rw [hcode] at h hdecode
      cases h
      refine react_command hidle ?_
      rw [commandOf_setWidth]
      exact Except.ok.inj hdecode
    | attachInput =>
      rw [hcode] at h hdecode
      cases h
      cases hdecode
      rfl
    | wire items =>
      rw [hcode] at h
      cases h

/-- `s` as the operation leaves it that has just started on the list `body`. -/
def State.started (s : State) (i : Instr) (body : List Micro) : State :=
  { s with seq := .busy i 0 false body, done := false }

/-- The operation starts in `s` on the list `body`, whatever inputs follow. -/
def StartsOn (i : Instr) (body : List Micro) (s : State) : Prop :=
  ∀ ins, exec i (s.taken ins s.freeCount) = .next { s.started i body with inputs := ins }

/-- `u` is an end without error of the operation that started in `s` on the list `body`. -/
structure EndOf (s : State) (i : Instr) (body : List Micro) (u : State) : Prop where
  idle : u.seq = .idle
  noError : u.err = .none
  bytes : byteTrace u.trace = bytesAtEnd (s.started i body)
  registers : u.registers = registersAtEnd (s.started i body)

theorem applyWrites_cfg (ws : List StateWrite) (s : State) : (applyWrites ws s).cfg = s.cfg := by
  induction ws generalizing s with
  | nil => rfl
  | cons w ws ih => exact (ih (applyWrite w s)).trans (applyWrite_cfg w s)

theorem EndOf.cfg_eq {s u : State} {i : Instr} {body : List Micro} (h : EndOf s i body u) : u.cfg = s.cfg :=
  have hcfg : u.registers.cfg = (registersAtEnd (s.started i body)).cfg := congrArg State.cfg h.registers
  hcfg.trans (applyWrites_cfg _ _)

/-- An operation that starts when presented has ended after enough quiet turns, and more change nothing. -/
theorem StartsOn.runsTo_end {s : State} {i : Instr} {body : List Micro} {a : Input} (h : StartsOn i body s)
    (hidle : s.seq = .idle) (ha : present s.cfg i = some a) :
    ∃ n u, EndOf s i body u ∧ ∀ k, n ≤ k → runsTo s (a :: quietTurns s.cfg k) u := by
  obtain ⟨n, u, hrun, huidle, huerr⟩ := runsTo_completion (s := s.started i body) rfl
  obtain ⟨hbytes, hregisters⟩ := runsTo_quiet_end hrun huidle
  refine ⟨n + 1, { u with done := false }, ⟨huidle, huerr, hbytes, hregisters⟩, fun k hk => ?_⟩
  obtain ⟨extra, rfl⟩ := Nat.exists_eq_add_of_le hk
  refine runsTo_cons (t := s.started i body) (fun ins => ?_) ?_
  · exact (react_present (s := s.taken ins s.freeCount) hidle ha).trans (h ins)
  · rw [Nat.add_assoc, Nat.add_comm 1]
    exact runsTo_quiet_append hrun (runsTo_idle extra s.cfg huidle)

/-- A host program of two operations, the second of which starts wherever the first has ended, runs to the end of the
second (30_encoding R75). -/
theorem runsTo_hostProgram_pair {s : State} {i j : Instr} {a b : Input} {first : List Micro}
    {second : State → List Micro} (hidle : s.seq = .idle) (ha : present s.cfg i = some a)
    (hb : present s.cfg j = some b) (hfirst : StartsOn i first s)
    (hsecond : ∀ u, EndOf s i first u → StartsOn j (second u) u) :
    ∃ n u v, EndOf s i first u ∧ EndOf u j (second u) v ∧ runsTo s (hostProgram s.cfg n [i, j]) v := by
  obtain ⟨m, u, hu, hrunFirst⟩ := hfirst.runsTo_end hidle ha
  obtain ⟨n, v, hv, hrunSecond⟩ := (hsecond u hu).runsTo_end hu.idle (hu.cfg_eq ▸ hb)
  refine ⟨max m n, u, v, hu, hv, ?_⟩
  have hprogram : hostProgram s.cfg (max m n) [i, j] =
      (a :: quietTurns s.cfg (max m n)) ++ (b :: quietTurns u.cfg (max m n)) := by
    simp [hostProgram, ha, hb, hu.cfg_eq]
  rw [hprogram]
  exact runsTo_append (hrunFirst _ (le_max_left m n)) (hrunSecond _ (le_max_right m n))

/-- Before its first operation is issued, the run of a host program has not ended (70_reset_and_hazards R198). -/
theorem runEnded_hostProgram {s : State} {c : Config} {n : Nat} {i : Instr} {ops : List Instr} {a : Input}
    (ha : present c i = some a) (hissues : issuesOperation a = true) (rest : List Input) :
    runEnded { s with inputs := hostProgram c n (i :: ops) ++ rest } = false :=
  runEnded_eq_false_of_mem (i := a) (by simp [hostProgram, ha]) hissues

theorem runEnded_of_idle {u : State} (h : u.seq = .idle) : runEnded { u with inputs := [] } = true := by
  have hbusy : busyOp { u with inputs := [] } = false := busyOp_eq_false h
  simp [runEnded, hbusy]

/-! ### ENCODE, then DISPLAY_FRAME -/

/-- The block is awake, idle and attached, and the host has written a grid of one of the two orientations: the premises
of the pseudo-operation. -/
structure GridReady (s : State) (o : Orientation) : Prop where
  admitted : s.cfg.Admitted
  idle : s.seq = .idle
  awake : s.dstate ≠ .sleeping
  attached : s.attached = true
  widthSet : s.imgWSet = true
  heightSet : s.imgHSet = true
  oriented : orientation s.cfg s.imgW.toNat s.imgH.toNat = some o
  written : gridWritten s o = true

theorem encodeGrid_of_ready {s : State} {o : Orientation} (h : GridReady s o) (op : Instr) (m : ColorMode)
    (pack : Config → (Nat → Nat → Byte) → List Byte) :
    encodeGrid op m pack s = start op [.write (.frame m (pack s.cfg (panelGrid s o)))] s := by
  simp only [encodeGrid, h.widthSet, h.heightSet, h.oriented, h.written, Bool.and_self, if_true]

/-- The premises speak of no field that the environment changes. -/
theorem GridReady.taken {s : State} {o : Orientation} (h : GridReady s o) (ins : List Input) (n : Nat) :
    GridReady (s.taken ins n) o :=
  ⟨h.admitted, h.idle, h.awake, h.attached, h.widthSet, h.heightSet, h.oriented, h.written⟩

theorem exec_encode1B_of_ready {s : State} {o : Orientation} (h : GridReady s o) :
    exec .encode1B s = start .encode1B [.write (.frame .oneBit (pack1 s.cfg (panelGrid s o)))] s :=
  (whenIdle_of_idle _ h.idle).trans (encodeGrid_of_ready h _ _ _)

theorem exec_encode4L_of_ready {s : State} {o : Orientation} (h : GridReady s o) :
    exec .encode4L s = start .encode4L [.write (.frame .fourLevel (pack4 s.cfg (panelGrid s o)))] s :=
  (whenIdle_of_idle _ h.idle).trans (encodeGrid_of_ready h _ _ _)

/-- The block is awake, idle and attached, and holds the frame `bs` of mode `m`: the premises of DISPLAY_FRAME. -/
structure FrameLoaded (s : State) (m : ColorMode) (bs : List Byte) : Prop where
  idle : s.seq = .idle
  awake : s.dstate ≠ .sleeping
  attached : s.attached = true
  valid : s.fbValid = true
  mode : s.fbMode = m
  frame : frameBytes s = bs

theorem FrameLoaded.taken {s : State} {m : ColorMode} {bs : List Byte} (h : FrameLoaded s m bs) (ins : List Input)
    (n : Nat) : FrameLoaded (s.taken ins n) m bs :=
  ⟨h.idle, h.awake, h.attached, h.valid, h.mode, h.frame⟩

/-- A buffer that was written whole reads back as it was written (20_memory R42). -/
theorem frameBytes_eq {s : State} {bs : List Byte} (hfb : s.fb = Memory.ofBytes bs)
    (hlen : s.fbLen = BitVec.ofNat 32 bs.length) (hfits : bs.length < 2 ^ 32) : frameBytes s = bs := by
  have htoNat : s.fbLen.toNat = bs.length := by
    rw [hlen, BitVec.toNat_ofNat, Nat.mod_eq_of_lt hfits]
  refine List.ext_getElem (by rw [length_frameBytes, htoNat]) fun k hk hk' => ?_
  simp [frameBytes, hfb, hk']

/-- ENCODE ends with its frame loaded, and neither sleeps nor releases the pins. -/
theorem GridReady.frameLoaded {s u : State} {o : Orientation} {i : Instr} {m : ColorMode} {bs : List Byte}
    (h : GridReady s o) (hend : EndOf s i [.write (.frame m bs)] u) (hfits : bs.length < 2 ^ 32) :
    FrameLoaded u m bs := by
  have hregisters : u.registers = (applyWrite (.frame m bs) s).registers := hend.registers
  have hdstate : u.registers.dstate = s.dstate := by rw [hregisters]; rfl
  have hattached : u.registers.attached = s.attached := by rw [hregisters]; rfl
  exact ⟨hend.idle, hdstate.trans_ne h.awake, hattached.trans h.attached, congrArg State.fbValid hregisters,
    congrArg State.fbMode hregisters,
    frameBytes_eq (congrArg State.fb hregisters) (congrArg State.fbLen hregisters) hfits⟩

theorem exec_displayFrame1B_of_loaded {s : State} {bs : List Byte} (h : FrameLoaded s .oneBit bs) :
    exec .displayFrame1B s = start .displayFrame1B (displayFrame1BBody s) s :=
  (whenIdle_of_idle _ h.idle).trans ((whenAwake_of_awake _ h.awake).trans
    ((whenTagged_of_tagged _ h.valid h.mode).trans (whenAttached_of_attached _ h.attached)))

theorem exec_displayFrame4L_of_loaded {s : State} {bs : List Byte} (h : FrameLoaded s .fourLevel bs) :
    exec .displayFrame4L s = start .displayFrame4L (displayFrame4LBody s) s :=
  (whenIdle_of_idle _ h.idle).trans ((whenAwake_of_awake _ h.awake).trans
    ((whenTagged_of_tagged _ h.valid h.mode).trans (whenAttached_of_attached _ h.attached)))

/-- Awake, the nested INIT is taken or was not needed: after its writes the DriverState is Ready (10_state R12). -/
theorem dstate_nestedInit_writes {s t : State} (hawake : s.dstate ≠ .sleeping) (ht : t.dstate = s.dstate) :
    (applyWrites ((nestedInit s).filterMap Micro.write?) t).dstate = .ready := by
  rw [nestedInit_writes]
  cases hd : s.dstate with
  | uninitialized => rfl
  | ready => exact ht.trans hd
  | sleeping => exact absurd hd hawake

/-- Awake, a display ends in Ready and has consumed the frame (41_protocol_driver R133, R134). -/
theorem EndOf.ready_and_consumed {s u : State} {i : Instr} {body : List Micro} {planes : List StateWrite}
    (h : EndOf s i body u) (hawake : s.dstate ≠ .sleeping)
    (hwrites : body.filterMap Micro.write? =
      (nestedInit s).filterMap Micro.write? ++ (planes ++ [.refreshed, .consumed]))
    (hplanes : ∀ t, (applyWrites planes t).dstate = t.dstate) : u.dstate = .ready ∧ u.fbValid = false := by
  have hend : registersAtEnd (s.started i body) = (applyWrites [.refreshed, .consumed] (applyWrites planes
      (applyWrites ((nestedInit s).filterMap Micro.write?) (s.started i body)))).registers := by
    simp only [registersAtEnd, State.started, Seq.pending, hwrites, applyWrites, List.foldl_append]
  have hregisters := h.registers.trans hend
  have hdstate := (hplanes _).trans (dstate_nestedInit_writes (t := s.started i body) hawake rfl)
  exact ⟨(congrArg State.dstate hregisters).trans hdstate, congrArg State.fbValid hregisters⟩

theorem displayFrame1B_end {s u : State} {bs : List Byte} (hadmitted : s.cfg.Admitted)
    (h : FrameLoaded s .oneBit bs) (hend : EndOf s .displayFrame1B (displayFrame1BBody s) u) :
    (u.dstate = .ready ∧ u.fbValid = false) ∧ ramImage s.cfg.op.writeRamBw u.trace = some bs := by
  refine ⟨hend.ready_and_consumed (planes := []) h.awake ?_ fun _ => rfl, ?_⟩
  · have hshow : (showOneBit (frameBytes s) s).filterMap Micro.write? = [] := rfl
    simp [displayFrame1BBody, hshow, Micro.write?]
  · have hbytes := hend.bytes.trans (displayFrame1BBody_bytesAtEnd s .displayFrame1B)
    exact h.frame ▸ ramImage_oneBit hadmitted hbytes

theorem displayFrame4L_end {s u : State} {bs : List Byte} (hadmitted : s.cfg.Admitted)
    (h : FrameLoaded s .fourLevel bs) (hend : EndOf s .displayFrame4L (displayFrame4LBody s) u) :
    (u.dstate = .ready ∧ u.fbValid = false) ∧ ramImage s.cfg.op.writeRamBw u.trace = some (deriveBw bs) ∧
      ramImage s.cfg.op.writeRamRed u.trace = some (deriveRed bs) := by
  refine ⟨hend.ready_and_consumed
    (planes := [.planes (deriveBw (frameBytes s)) (deriveRed (frameBytes s))]) h.awake ?_ fun _ => rfl, ?_⟩
  · simp [displayFrame4LBody, showFourLevel_writes, Micro.write?]
  · have hbytes := hend.bytes.trans (displayFrame4LBody_bytesAtEnd s .displayFrame4L)
    exact h.frame ▸ ⟨ramImage_fourLevel_bw hadmitted hbytes, ramImage_fourLevel_red hadmitted hbytes⟩

/-- Both packed buffers of an admitted configuration fit FB_LEN (92_eei_decisions D26). -/
theorem length_pack1_lt {c : Config} (h : c.Admitted) (p : Nat → Nat → Byte) : (pack1 c p).length < 2 ^ 32 := by
  rw [length_pack1]
  exact (Config.frameLen_le h .oneBit).trans_lt (Config.packedLen_lt h)

theorem length_pack4_lt {c : Config} (h : c.Admitted) (p : Nat → Nat → Byte) : (pack4 c p).length < 2 ^ 32 :=
  (length_pack4 h p).trans_lt (Config.packedLen_lt h)

end Sys2Proof.Machine

section

open Sys2Proof Sys2Proof.Machine Sys2Proof.Safety

/-- Settles O42: ENCODE ends with the frame loaded, so DISPLAY_FRAME starts there, and what that ends with is fixed by
the frame. -/
theorem displayPseudoOperationShowsTheGrid : Obligations.DisplayPseudoOperationShowsTheGrid := by
  intro s o hadmitted hidle hawake hattached hwidth hheight horiented hwritten
  have hready : GridReady s o := ⟨hadmitted, hidle, hawake, hattached, hwidth, hheight, horiented, hwritten⟩
  constructor
  · have hloaded {u : State} := hready.frameLoaded (u := u) (i := .encode1B) (m := .oneBit)
      (hfits := length_pack1_lt hadmitted (panelGrid s o))
    obtain ⟨n, u, v, hu, hv, hrun⟩ := runsTo_hostProgram_pair (second := displayFrame1BBody) hidle rfl rfl
      (fun ins => exec_encode1B_of_ready (hready.taken ins s.freeCount))
      (fun u hu ins => exec_displayFrame1B_of_loaded ((hloaded hu).taken ins u.freeCount))
    obtain ⟨⟨hdstate, hconsumed⟩, hbw⟩ := displayFrame1B_end (hu.cfg_eq ▸ hadmitted) (hloaded hu) hv
    rw [hu.cfg_eq] at hbw
    exact ⟨n, v, hrun, hv.noError, runEnded_hostProgram rfl rfl, runEnded_of_idle hv.idle, hdstate, hconsumed, hbw⟩
  · have hloaded {u : State} := hready.frameLoaded (u := u) (i := .encode4L) (m := .fourLevel)
      (hfits := length_pack4_lt hadmitted (panelGrid s o))
    obtain ⟨n, u, v, hu, hv, hrun⟩ := runsTo_hostProgram_pair (second := displayFrame4LBody) hidle rfl rfl
      (fun ins => exec_encode4L_of_ready (hready.taken ins s.freeCount))
      (fun u hu ins => exec_displayFrame4L_of_loaded ((hloaded hu).taken ins u.freeCount))
    obtain ⟨⟨hdstate, hconsumed⟩, hbw, hred⟩ := displayFrame4L_end (hu.cfg_eq ▸ hadmitted) (hloaded hu) hv
    rw [hu.cfg_eq] at hbw hred
    exact ⟨n, v, hrun, hv.noError, runEnded_hostProgram rfl rfl, runEnded_of_idle hv.idle, hdstate, hconsumed, hbw,
      hred⟩

end
end

section
/-! PROOFS. The panel commands (O18, O19): what one queues for the sequencer, and where its frames leave the pins
(40_wire_framing R90 to R94). -/

namespace Sys2Proof.Machine

open Sys2Proof.Safety

/-! ### What a panel command queues -/

/-- Of the 22 panel commands the two plane writes have a bulk data frame, the others single-byte frames
(40_wire_framing R99). -/
theorem panelEvents_command_or_plane (c : Config) {i : Instr} (hi : isPanelCommand i = true) :
    (∃ op args, panelEvents c i = commandEvents op args) ∨ ∃ op plane, panelEvents c i = planeEvents op plane := by
  cases i <;> simp only [isPanelCommand, Bool.false_eq_true] at hi
  case writeRamBw | writeRamRed => exact .inr ⟨_, _, rfl⟩
  all_goals exact .inl ⟨_, _, rfl⟩

theorem panelEvents_ne_nil (c : Config) {i : Instr} (hi : isPanelCommand i = true) : panelEvents c i ≠ [] := by
  obtain ⟨_, _, h⟩ | ⟨_, _, h⟩ := panelEvents_command_or_plane c hi <;> rw [h] <;> nofun

theorem emitCommand_idle {s : State} (op : Byte) (args : List Byte) (h : s.seq = .idle) :
    emitCommand op args s = .refused .outsideOperation := by
  simp only [emitCommand, queue, h]

theorem emitPlane_idle {s : State} (op : Byte) (p : List Byte) (h : s.seq = .idle) :
    emitPlane op p s = .refused .outsideOperation := by
  simp only [emitPlane, queue, h]

/-- With no operation to stand in, a panel command has no step (log 14). -/
theorem exec_panel_idle {i : Instr} {s : State} (hi : isPanelCommand i = true) (h : s.seq = .idle) :
    exec i s = .refused .outsideOperation := by
  cases i <;> simp only [isPanelCommand, Bool.false_eq_true] at hi
  case writeRamBw | writeRamRed => exact emitPlane_idle _ _ h
  all_goals exact emitCommand_idle _ _ h

/-! ### Where the frames leave the pins -/

theorem foldl_rstAfter_dataFrames (old : Option Level) (bs : List Byte) :
    (bs.flatMap dataFrame).foldl rstAfter old = old := by
  induction bs with
  | nil => rfl
  | cons b bs ih => simpa [dataFrame, rstAfter] using ih

/-- Every data frame ends with chip-select high, so a list of them leaves it as the command frame did. -/
theorem foldl_csAfter_dataFrames (bs : List Byte) : (bs.flatMap dataFrame).foldl csAfter (some true) = some true := by
  induction bs with
  | nil => rfl
  | cons b bs ih => simpa [dataFrame, csAfter] using ih

/-- No frame of a panel command drives the reset output. -/
theorem foldl_rstAfter_panelEvents (c : Config) {i : Instr} (old : Option Level) (hi : isPanelCommand i = true) :
    (panelEvents c i).foldl rstAfter old = old := by
  obtain ⟨op, args, h⟩ | ⟨op, plane, h⟩ := panelEvents_command_or_plane c hi
  · rw [h, commandEvents, List.foldl_append]
    exact foldl_rstAfter_dataFrames old args
  · rw [h]
    rfl

/-- A panel command leaves chip-select high, whatever it found there. -/
theorem foldl_csAfter_panelEvents (c : Config) {i : Instr} (old : Option Level) (hi : isPanelCommand i = true) :
    (panelEvents c i).foldl csAfter old = some true := by
  obtain ⟨op, args, h⟩ | ⟨op, plane, h⟩ := panelEvents_command_or_plane c hi
  · rw [h, commandEvents, List.foldl_append]
    exact foldl_csAfter_dataFrames args
  · rw [h]
    rfl

/-- The events a panel command put in front of the rest go on the wire by one quiet turn each, and no register but the
pins changes (10_state R20). -/
theorem runsTo_panelEvents {i : Instr} {s : State} {op : Instr} {idx : Nat} {touched : Bool} {rest : List Micro}
    (hi : isPanelCommand i = true)
    (h : s.seq = .busy op idx touched ((panelEvents s.cfg i).map Micro.emit ++ rest)) :
    runsTo s (quietTurns s.cfg (panelEvents s.cfg i).length)
      { s with
        seq := .busy op (idx + (panelEvents s.cfg i).length) true rest
        trace := s.trace ++ panelEvents s.cfg i
        dcO := (panelEvents s.cfg i).foldl dcAfter s.dcO
        csO := some true
        done := false } := by
  have hrun := runsTo_emits (panelEvents s.cfg i) (!s.cfg.busyActive) h (panelEvents_ne_nil s.cfg hi)
  rwa [foldl_rstAfter_panelEvents s.cfg _ hi, foldl_csAfter_panelEvents s.cfg _ hi] at hrun

end Sys2Proof.Machine

section

open Sys2Proof Sys2Proof.Machine Sys2Proof.Safety

/-- Settles O18: `exec` puts the frames in front of the rest, and the turns that follow perform them. -/
theorem panelCommandsEmitTheirFrames : Obligations.PanelCommandsEmitTheirFrames :=
  fun i _ _ _ _ _ hpanel hbusy => ⟨_, exec_panel_busy i hpanel hbusy, runsTo_panelEvents hpanel rfl⟩

/-- Settles O19, for the single-byte and the bulk form alike: both need an operation to queue their frames in. -/
theorem panelCommandsStopOutsideAnOperation : Obligations.PanelCommandsStopOutsideAnOperation :=
  fun _ _ hpanel hidle => exec_panel_idle hpanel hidle

end
end

section
/-! PROOFS. The operations of the driver under quiet turns (O7, O8, O13, O16): what each element of an expansion does
when no event fails and every sample reads idle, the exact state in which an operation ends, and with it RESET, INIT,
SLEEP and ATTACH. -/

namespace Sys2Proof.Machine

open Sys2Proof.Safety

/-! ### What quiet turns make of an element -/

/-- The events an element puts on the wire when every sample reads idle. -/
def quietEvents (c : Config) : Micro → List WireEvent
  | .emit e => [e]
  | .poll => [.busy (!c.busyActive)]
  | .write _ => []
  | .call i => panelEvents c i

/-- `s` with a list of wire events performed (40_wire_framing R90). -/
def State.emitted (s : State) (es : List WireEvent) : State :=
  { s with
    trace := s.trace ++ es
    rstO := es.foldl rstAfter s.rstO
    dcO := es.foldl dcAfter s.dcO
    csO := es.foldl csAfter s.csO }

theorem State.emitted_nil (s : State) : s.emitted [] = s := by
  simp [State.emitted]

theorem State.emitted_append (s : State) (a b : List WireEvent) : s.emitted (a ++ b) = (s.emitted a).emitted b := by
  simp [State.emitted]

/-- What quiet turns make of one element: its state write, or its events. -/
def Micro.performed (s : State) : Micro → State
  | .write w => applyWrite w s
  | .emit e => s.emitted (quietEvents s.cfg (.emit e))
  | .poll => s.emitted (quietEvents s.cfg .poll)
  | .call i => s.emitted (quietEvents s.cfg (.call i))

@[simp] theorem Micro.performed_cfg (s : State) (m : Micro) : (m.performed s).cfg = s.cfg := by
  cases m with
  | write w => exact applyWrite_cfg w s
  | _ => rfl

@[simp] theorem Micro.performed_seq (s : State) (m : Micro) : (m.performed s).seq = s.seq := by
  cases m with
  | write w => exact applyWrite_seq w s
  | _ => rfl

/-- The elements of a list, performed in order. -/
def performedAll (ms : List Micro) (s : State) : State := ms.foldl Micro.performed s

theorem performedAll_cons (m : Micro) (ms : List Micro) (s : State) :
    performedAll (m :: ms) s = performedAll ms (m.performed s) := rfl

theorem performedAll_append (a b : List Micro) (s : State) :
    performedAll (a ++ b) s = performedAll b (performedAll a s) := List.foldl_append ..

/-- What an element does reads neither the sequencer position nor the `done` pulse. -/
theorem Micro.performed_position (m : Micro) (q : Seq) (d : Bool) (s : State) :
    m.performed { s with seq := q, done := d } = { m.performed s with seq := q, done := d } := by
  cases m with
  | write w => cases w <;> rfl
  | _ => rfl

theorem complete_performedAll_position (ms : List Micro) (q : Seq) (d : Bool) (s : State) :
    complete (performedAll ms { s with seq := q, done := d }) = complete (performedAll ms s) := by
  induction ms generalizing s with
  | nil => rfl
  | cons m ms ih =>
    rw [performedAll_cons, performedAll_cons, m.performed_position, ih]

theorem performedAll_seq (ms : List Micro) (s : State) : (performedAll ms s).seq = s.seq := by
  induction ms generalizing s with
  | nil => rfl
  | cons m ms ih => rw [performedAll_cons, ih, m.performed_seq]

theorem performedAll_cfg (ms : List Micro) (s : State) : (performedAll ms s).cfg = s.cfg := by
  induction ms generalizing s with
  | nil => rfl
  | cons m ms ih => rw [performedAll_cons, ih, m.performed_cfg]

/-! ### What quiet turns make of an operation -/

/-- The first idle sample ends a wait. -/
theorem runsTo_idleSample {s : State} {op : Instr} {idx : Nat} {touched : Bool} {rest : List Micro}
    (h : s.seq = .busy op idx touched (.poll :: rest)) :
    runsTo s (quietTurns s.cfg 1)
      { s with
        seq := .busy op (idx + 1) true rest
        trace := s.trace ++ [.busy (!s.cfg.busyActive)]
        done := false } := by
  refine runsTo_quietTurn fun ins => (advance_poll (s := s.taken ins s.freeCount) _ h).trans ?_
  simp only [State.taken, pollAgain_idle]
  rfl

/-- Some number of quiet turns performs the first element of the list. -/
theorem runsTo_performed {s : State} {op : Instr} {idx : Nat} {touched : Bool} {m : Micro} {rest : List Micro}
    (h : s.seq = .busy op idx touched (m :: rest)) :
    ∃ n idx' touched', runsTo s (quietTurns s.cfg n)
      { m.performed s with seq := .busy op idx' touched' rest, done := false } := by
  cases m with
  | emit e => exact ⟨1, _, _, runsTo_emits [e] _ h (List.cons_ne_nil _ _)⟩
  | poll => exact ⟨1, _, _, runsTo_idleSample h⟩
  | write w =>
    refine ⟨1, idx + 1, touched, runsTo_quietTurn fun ins => ?_⟩
    rw [advance_write (s := s.taken ins s.freeCount) _ _ h]
    cases w <;> rfl
  | call i =>
    cases hi : isPanelCommand i with
    | false =>
      have hnone : (Micro.call i).performed s = s := by
        simp only [Micro.performed, quietEvents, panelEvents_of_not_panel hi, State.emitted_nil]
      refine ⟨1, idx, touched, runsTo_quietTurn fun ins => ?_⟩
      rw [hnone, advance_call (s := s.taken ins s.freeCount) _ _ h]
      exact exec_host_busy i hi nofun
    | true =>
      have htaken : runsTo s (quietTurns s.cfg 1)
          { s with seq := .busy op idx touched ((panelEvents s.cfg i).map Micro.emit ++ rest), done := false } :=
        runsTo_quietTurn fun ins => (advance_call (s := s.taken ins s.freeCount) _ _ h).trans (exec_panel_busy i hi rfl)
      exact ⟨_, _, _, runsTo_quiet_append htaken (runsTo_emits (panelEvents s.cfg i) _ rfl (panelEvents_ne_nil _ hi))⟩

theorem runsTo_end {s : State} {op : Instr} {idx : Nat} {touched : Bool} (h : s.seq = .busy op idx touched []) :
    runsTo s (quietTurns s.cfg 1) (complete s) :=
  runsTo_quietTurn fun ins => advance_end (s := s.taken ins s.freeCount) _ _ h

/-- Under quiet turns an operation performs the elements it has left, and ends (41_protocol_driver R130 step 6). -/
theorem endsQuietly_performedAll {s : State} {op : Instr} {idx : Nat} {touched : Bool} {rest : List Micro}
    (h : s.seq = .busy op idx touched rest) : endsQuietly s (complete (performedAll rest s)) := by
  induction rest generalizing s idx touched with
  | nil => exact ⟨1, runsTo_end h⟩
  | cons m rest ih =>
    obtain ⟨n, idx', touched', hhead⟩ := runsTo_performed h
    obtain ⟨n', htail⟩ := ih (s := { m.performed s with seq := .busy op idx' touched' rest, done := false }) rfl
    rw [complete_performedAll_position, show State.cfg _ = s.cfg from m.performed_cfg s] at htail
    exact ⟨n + n', runsTo_quiet_append hhead htail⟩

/-- `s` with an operation ended without error, where no operation runs in `s`. -/
theorem complete_of_idle {s : State} (h : s.seq = .idle) : complete s = { s with err := .none, done := true } := by
  simp only [complete, h]

/-- An operation that starts on a list ends under quiet turns with its elements performed. -/
theorem start_endsQuietly {s u : State} {i : Instr} {body : List Micro} (hidle : s.seq = .idle)
    (hstart : exec i s = start i body s) (hend : { performedAll body s with err := .none, done := true } = u) :
    ∃ t, exec i s = .next t ∧ busyOp t = true ∧ endsQuietly t u := by
  refine ⟨{ s with seq := .busy i 0 false body }, hstart, rfl, ?_⟩
  rw [← hend, ← complete_of_idle ((performedAll_seq body s).trans hidle),
    ← complete_performedAll_position body (.busy i 0 false body) s.done s]
  exact endsQuietly_performedAll rfl

/-! ### Events and state writes apart -/

/-- The writes that release the pins (41_protocol_driver R137, R139). -/
def releasesPins : StateWrite → Bool
  | .sleeping => true
  | .attached => true
  | _ => false

/-- A write that keeps the pins may as well be made after the events that follow it. -/
theorem emitted_applyWrite {w : StateWrite} (h : releasesPins w = false) (s : State) (es : List WireEvent) :
    (applyWrite w s).emitted es = applyWrite w (s.emitted es) := by
  cases w with
  | sleeping => exact absurd h nofun
  | attached => exact absurd h nofun
  | _ => rfl

/-- A list in which no write releases the pins does what all its events and then all its writes do. -/
theorem performedAll_eq {ms : List Micro} (h : ∀ w ∈ ms.filterMap Micro.write?, releasesPins w = false) (s : State) :
    performedAll ms s =
      applyWrites (ms.filterMap Micro.write?) (s.emitted (ms.flatMap (quietEvents s.cfg))) := by
  induction ms generalizing s with
  | nil => exact s.emitted_nil.symm
  | cons m ms ih =>
    rw [List.flatMap_cons]
    have hcons : performedAll (m :: ms) s = performedAll ms (m.performed s) := rfl
    cases m with
    | write w =>
      obtain ⟨hw, hms⟩ := List.forall_mem_cons.mp h
      rw [hcons, ih hms, Micro.performed_cfg]
      exact congrArg (applyWrites _) (emitted_applyWrite hw s _)
    | emit | poll | call =>
      rw [hcons, ih h, Micro.performed_cfg, State.emitted_append]
      rfl

/-- A list with no state write puts its events on the wire and does nothing else. -/
theorem performedAll_of_no_writes {ms : List Micro} (h : ms.filterMap Micro.write? = []) (s : State) :
    performedAll ms s = s.emitted (ms.flatMap (quietEvents s.cfg)) := by
  rw [performedAll_eq (by rw [h]; nofun), h]
  rfl

/-! ### RESET and INIT -/

theorem performedAll_resetPulse (s : State) :
    performedAll resetPulse s = { s.emitted resetPulseEvents with panelUndef := false } :=
  performedAll_eq (by decide) s

theorem initBody_quietEvents (c : Config) (f : Bool) : (initBody f).flatMap (quietEvents c) = initEvents c f := by
  simp [initBody, resetPulse, pinRst, delay, quietEvents, panelEvents, initEvents, resetPulseEvents, Config.tRstHi1,
    Config.tRstLo, Config.tRstHi2, Config.tSwReset, Config.duc2Init]

theorem foldl_rstAfter_commandEvents (old : Option Level) (op : Byte) (args : List Byte) :
    (commandEvents op args).foldl rstAfter old = old := by
  rw [commandEvents, List.foldl_append]
  exact foldl_rstAfter_dataFrames old args

/-- The reset pulse leaves the reset output high, and nothing after it in INIT drives that output. -/
theorem foldl_rstAfter_initEvents (old : Option Level) (c : Config) (f : Bool) :
    (initEvents c f).foldl rstAfter old = some true := by
  simp [initEvents, foldl_rstAfter_commandEvents, resetPulseEvents, rstAfter]

/-- INIT's last frame is a data frame. -/
theorem foldl_dcAfter_initEvents (old : Option Level) (c : Config) (f : Bool) :
    (initEvents c f).foldl dcAfter old = some true := by
  rw [initEvents, List.foldl_append]
  rfl

theorem foldl_csAfter_initEvents (old : Option Level) (c : Config) (f : Bool) :
    (initEvents c f).foldl csAfter old = some true := by
  rw [initEvents, List.foldl_append]
  rfl

/-- `s` with `INIT_BODY(f)` performed (41_protocol_driver R132). -/
theorem performedAll_initBody (f : Bool) (s : State) :
    performedAll (initBody f) s =
      { s with
        trace := s.trace ++ initEvents s.cfg f
        rstO := some true
        dcO := some true
        csO := some true
        panelUndef := false
        dstate := .ready } := by
  have hwrites : (initBody f).filterMap Micro.write? = [.panelKnown, .ready] := rfl
  rw [performedAll_eq (by rw [hwrites]; decide), hwrites, initBody_quietEvents, State.emitted,
    foldl_rstAfter_initEvents, foldl_dcAfter_initEvents, foldl_csAfter_initEvents]
  rfl

theorem exec_reset_of_attached {s : State} (hidle : s.seq = .idle) (hattached : s.attached = true) :
    exec .reset s = start .reset resetPulse s :=
  (whenIdle_of_idle _ hidle).trans (whenAttached_of_attached _ hattached)

theorem exec_init_of_attached {s : State} (fast : Bool) (hidle : s.seq = .idle) (hattached : s.attached = true) :
    exec (.init fast) s = start (.init fast) (.write (.preferFast fast) :: initBody fast) s :=
  (whenIdle_of_idle _ hidle).trans (whenAttached_of_attached _ hattached)

/-! ### SLEEP and ATTACH -/

theorem performedAll_emits (es : List WireEvent) (s : State) : performedAll (es.map Micro.emit) s = s.emitted es := by
  induction es generalizing s with
  | nil => exact s.emitted_nil.symm
  | cons e es ih => exact (ih (s.emitted [e])).trans (s.emitted_append [e] es).symm

theorem exec_sleep_of_attached {s : State} (hidle : s.seq = .idle) (hattached : s.attached = true) :
    exec .sleep s = start .sleep (sleepBody s.cfg) s :=
  (whenIdle_of_idle _ hidle).trans (whenAttached_of_attached _ hattached)

/-- The wire events of SLEEP, in order (41_protocol_driver R137). -/
def sleepEvents (c : Config) : List WireEvent :=
  commandEvents c.op.deepSleep [0xA5] ++ c.sleepPowerOff ++
    [.delay 2000, .busClose, .rst false, .dc false, .pinsRelease]

/-- The write of Sleeping comes after all the events of SLEEP, whatever the power-off list holds. -/
theorem performedAll_sleepBody (s : State) :
    performedAll (sleepBody s.cfg) s = applyWrite .sleeping (s.emitted (sleepEvents s.cfg)) := by
  rw [sleepBody, performedAll_append, performedAll_append, performedAll_emits, sleepEvents, State.emitted_append,
    State.emitted_append]
  exact congrArg (applyWrite .sleeping) (performedAll_emits [_, _, _, _, _] _)

theorem performedAll_attachBody (s : State) :
    performedAll attachBody s = applyWrite .attached (s.emitted [.busOpen, .pinCfg]) :=
  congrArg (applyWrite .attached) (performedAll_emits [.busOpen, .pinCfg] s)

theorem exec_attach_of_released {s : State} (hidle : s.seq = .idle) (hreleased : s.attached = false) :
    exec .attach s = start .attach attachBody s :=
  (whenIdle_of_idle _ hidle).trans (if_neg (by simp [hreleased]))

theorem exec_attach_of_attached {s : State} (hidle : s.seq = .idle) (hattached : s.attached = true) :
    exec .attach s = .next s :=
  (whenIdle_of_idle _ hidle).trans (if_pos hattached)

end Sys2Proof.Machine

section

open Sys2Proof Sys2Proof.Machine Sys2Proof.Safety

/-- Settles O7: the pulse's elements, performed in order. -/
theorem resetDrivesThePulse : Obligations.ResetDrivesThePulse := by
  intro s hidle hattached
  refine start_endsQuietly hidle (exec_reset_of_attached hidle hattached) ?_
  rw [performedAll_resetPulse]
  rfl

/-- Settles O8: the preference is written, and then INIT_BODY is performed. -/
theorem initRunsTheFixedSequence : Obligations.InitRunsTheFixedSequence := by
  intro s fast hidle hattached
  refine start_endsQuietly hidle (exec_init_of_attached fast hidle hattached) ?_
  rw [performedAll_cons, performedAll_initBody]
  rfl

/-- Settles O13: the pins are released last, after the power-off events of any list. -/
theorem sleepReleasesBusAndPins : Obligations.SleepReleasesBusAndPins := by
  intro s hidle hattached
  refine start_endsQuietly hidle (exec_sleep_of_attached hidle hattached) ?_
  rw [performedAll_sleepBody]
  simp only [sleepEvents, List.append_assoc]
  rfl

/-- Settles O16: idle and unattached it starts; its two checks are all it asks. -/
theorem attachClaimsBusAndPins : Obligations.AttachClaimsBusAndPins := by
  constructor
  · intro s hidle hreleased
    refine start_endsQuietly hidle (exec_attach_of_released hidle hreleased) ?_
    rw [performedAll_attachBody]
    rfl
  · intro s h
    by_cases hidle : s.seq = .idle
    · exact exec_attach_of_attached hidle (h.resolve_left (not_not_intro hidle))
    · exact exec_host_busy .attach rfl hidle

end
end

section
/-! PROOFS. The displays and clears under quiet turns (O9 to O12), the refusal of a frame whose tag does not fit (O37),
and WAIT_IDLE (O14): the nested INIT and a show end as `afterShow` says, and each operation adds its own state writes. -/

namespace Sys2Proof.Machine

open Sys2Proof.Safety

/-! ### The events of a show -/

theorem setCountersOrigin_quietEvents (c : Config) : setCountersOrigin.flatMap (quietEvents c) = originEvents c := by
  simp [setCountersOrigin, quietEvents, panelEvents, originEvents]

theorem recountBeforeRed_quietEvents (c : Config) :
    (recountBeforeRed c).flatMap (quietEvents c) = if c.recountBeforeRed then originEvents c else [] := by
  unfold recountBeforeRed
  split
  · exact setCountersOrigin_quietEvents c
  · rfl

theorem showOneBit_quietEvents (plane : List Byte) (s : State) :
    (showOneBit plane s).flatMap (quietEvents s.cfg) = oneBitEvents s plane := by
  simp [showOneBit, setCountersOrigin_quietEvents, loadLut, activateAndWait, quietEvents, panelEvents, oneBitEvents]

theorem showFourLevel_quietEvents (bw red : List Byte) (s : State) :
    (showFourLevel bw red s).flatMap (quietEvents s.cfg) = fourLevelEvents s bw red := by
  simp [showFourLevel, setCountersOrigin_quietEvents, recountBeforeRed_quietEvents, loadLut, activateAndWait,
    quietEvents, panelEvents, fourLevelEvents, Config.duc2FourLevel]

/-- Where the events of a show leave the pins: they end with a command frame and a sample. -/
structure ShowPins (es : List WireEvent) : Prop where
  rst : ∀ old, es.foldl rstAfter old = old
  dc : ∀ old, es.foldl dcAfter old = some false
  cs : ∀ old, es.foldl csAfter old = some true

theorem foldl_rstAfter_planeEvents (old : Option Level) (op : Byte) (p : List Byte) :
    (planeEvents op p).foldl rstAfter old = old := rfl

theorem foldl_rstAfter_originEvents (old : Option Level) (c : Config) :
    (originEvents c).foldl rstAfter old = old := by
  simp only [originEvents, List.foldl_append, foldl_rstAfter_commandEvents]

/-- Events that do not drive the reset output, before the activation and its wait (40_wire_framing R119). -/
theorem ShowPins.of_activation {es : List WireEvent} {op : Byte} {l : Level}
    (h : ∀ old, es.foldl rstAfter old = old) : ShowPins (es ++ commandEvents op [] ++ [.busy l]) where
  rst old := by
    rw [List.foldl_append, List.foldl_append, h]
    rfl
  dc old := by
    rw [List.foldl_append, List.foldl_append]
    rfl
  cs old := by
    rw [List.foldl_append, List.foldl_append]
    rfl

theorem showPins_oneBit (s : State) (plane : List Byte) : ShowPins (oneBitEvents s plane) :=
  .of_activation fun old => by
    simp only [List.foldl_append, foldl_rstAfter_originEvents, foldl_rstAfter_planeEvents, foldl_rstAfter_commandEvents]

theorem showPins_fourLevel (s : State) (bw red : List Byte) : ShowPins (fourLevelEvents s bw red) :=
  .of_activation fun old => by
    have hrecount : ∀ o, (if s.cfg.recountBeforeRed then originEvents s.cfg else []).foldl rstAfter o = o := by
      split
      · exact fun o => foldl_rstAfter_originEvents o s.cfg
      · exact fun _ => rfl
    simp only [List.foldl_append, foldl_rstAfter_originEvents, foldl_rstAfter_planeEvents, foldl_rstAfter_commandEvents,
      hrecount]

/-! ### From the nested INIT to the end of a show -/

/-- The nested INIT, where it is taken (41_protocol_driver R141 (a)). -/
theorem performedAll_nestedInit (s : State) :
    performedAll (nestedInit s) s =
      if s.dstate = .uninitialized then performedAll (initBody s.prefFast) s else s := by
  unfold nestedInit
  split <;> rfl

/-- `afterShow` is the nested INIT, the events of the show, and the write of the counter as the operation ends. -/
theorem afterShow_eq {s : State} {es : List WireEvent} (h : ShowPins es) :
    afterShow s es =
      { (performedAll (nestedInit s) s).emitted es with refreshCnt := 0, err := .none, done := true } := by
  rw [performedAll_nestedInit, afterShow, nestedInitEvents, State.emitted, h.rst, h.dc, h.cs]
  split
  · rw [performedAll_initBody]
  · rw [List.append_nil]

theorem performedAll_nestedInit_fbLen (s : State) : (performedAll (nestedInit s) s).fbLen = s.fbLen := by
  rw [performedAll_nestedInit]
  split
  · rw [performedAll_initBody]
  · rfl

theorem performedAll_showOneBit {s x : State} (h : x.cfg = s.cfg) (plane : List Byte) :
    performedAll (showOneBit plane s) x = x.emitted (oneBitEvents s plane) := by
  rw [performedAll_of_no_writes rfl, h, showOneBit_quietEvents]

theorem performedAll_showFourLevel {s x : State} (h : x.cfg = s.cfg) (bw red : List Byte) :
    performedAll (showFourLevel bw red s) x = x.emitted (fourLevelEvents s bw red) := by
  rw [performedAll_of_no_writes (showFourLevel_writes bw red s), h, showFourLevel_quietEvents]

theorem exec_clear1B_of_awake {s : State} (hidle : s.seq = .idle) (hawake : s.dstate ≠ .sleeping)
    (hattached : s.attached = true) : exec .clear1B s = start .clear1B (clear1BBody s) s :=
  (whenIdle_of_idle _ hidle).trans ((whenAwake_of_awake _ hawake).trans (whenAttached_of_attached _ hattached))

theorem exec_clear4L_of_awake {s : State} (hidle : s.seq = .idle) (hawake : s.dstate ≠ .sleeping)
    (hattached : s.attached = true) : exec .clear4L s = start .clear4L (clear4LBody s) s :=
  (whenIdle_of_idle _ hidle).trans ((whenAwake_of_awake _ hawake).trans (whenAttached_of_attached _ hattached))

/-! ### WAIT_IDLE -/

/-- The events of a wait that sees `k` busy samples (40_wire_framing R96). -/
def waitEvents (c : Config) (k : Nat) : List WireEvent :=
  (List.replicate k [.busy c.busyActive, .delay 10]).flatten ++ [.busy (!c.busyActive)]

/-- A busy sample of a wait is followed by a delay, and then the wait is as it was. -/
theorem runsTo_busySample {s : State} {op : Instr} {idx : Nat} {touched : Bool} {rest : List Micro}
    (h : s.seq = .busy op idx touched (.poll :: rest)) :
    runsTo s [.tick s.cfg.busyActive false, .tick s.cfg.busyActive false]
      { s with
        seq := .busy op (idx + 2) true (.poll :: rest)
        trace := s.trace ++ [.busy s.cfg.busyActive, .delay 10]
        done := false } := by
  have hsample : runsTo s [.tick s.cfg.busyActive false]
      { s with
        seq := .busy op (idx + 1) true (.emit (.delay Config.tPoll) :: .poll :: rest)
        trace := s.trace ++ [.busy s.cfg.busyActive]
        done := false } := by
    refine runsTo_cons (fun ins => ?_) (runsTo_nil _)
    refine (advance_poll (s := s.taken ins s.freeCount) _ h).trans ?_
    simp only [State.taken, pollAgain_busy]
    rfl
  have hdelay := runsTo_append hsample (runsTo_emits [.delay Config.tPoll] s.cfg.busyActive rfl (List.cons_ne_nil _ _))
  simp only [List.append_assoc] at hdelay
  exact hdelay

theorem waitTurns_succ (c : Config) (k : Nat) :
    waitTurns c (k + 1) = [.tick c.busyActive false, .tick c.busyActive false] ++ waitTurns c k := by
  simp only [waitTurns, List.replicate_succ, List.flatten_cons, List.append_assoc]

theorem waitEvents_succ (c : Config) (k : Nat) :
    waitEvents c (k + 1) = [.busy c.busyActive, .delay 10] ++ waitEvents c k := by
  simp only [waitEvents, List.replicate_succ, List.flatten_cons, List.append_assoc]

theorem runsTo_wait (k : Nat) {s : State} {op : Instr} {idx : Nat} {touched : Bool} {rest : List Micro}
    (h : s.seq = .busy op idx touched (.poll :: rest)) :
    ∃ idx', runsTo s (waitTurns s.cfg k)
      { s with seq := .busy op idx' true rest, trace := s.trace ++ waitEvents s.cfg k, done := false } := by
  induction k generalizing s idx touched with
  | zero => exact ⟨idx + 1, runsTo_idleSample h⟩
  | succ k ih =>
    have hround := runsTo_busySample h
    obtain ⟨idx', hrest⟩ := ih (s := { s with
      seq := .busy op (idx + 2) true (.poll :: rest)
      trace := s.trace ++ [.busy s.cfg.busyActive, .delay 10]
      done := false }) rfl
    refine ⟨idx', ?_⟩
    rw [waitTurns_succ, waitEvents_succ, ← List.append_assoc s.trace]
    exact runsTo_append hround hrest

theorem exec_waitIdle_of_attached {s : State} (hidle : s.seq = .idle) (hattached : s.attached = true) :
    exec .waitIdle s = start .waitIdle [.poll] s :=
  (whenIdle_of_idle _ hidle).trans (whenAttached_of_attached _ hattached)

end Sys2Proof.Machine

section

open Sys2Proof Sys2Proof.Machine Sys2Proof.Safety

/-- Settles O9: a show of the frame, which is then consumed. -/
theorem displayFrame1BShowsTheFrame : Obligations.DisplayFrame1BShowsTheFrame := by
  intro s hidle hawake hvalid hmode hattached
  refine start_endsQuietly hidle (exec_displayFrame1B_of_loaded ⟨hidle, hawake, hattached, hvalid, hmode, rfl⟩) ?_
  rw [displayFrame1BBody, performedAll_append, performedAll_append, performedAll_showOneBit (performedAll_cfg _ s),
    afterShow_eq (showPins_oneBit s _)]
  rfl

/-- Settles O10: the planes are written before the show, the frame is consumed after it. -/
theorem displayFrame4LShowsBothPlanes : Obligations.DisplayFrame4LShowsBothPlanes := by
  intro s hidle hawake hvalid hmode hattached
  refine start_endsQuietly hidle (exec_displayFrame4L_of_loaded ⟨hidle, hawake, hattached, hvalid, hmode, rfl⟩) ?_
  rw [displayFrame4LBody, performedAll_append, performedAll_append, performedAll_append,
    performedAll_showFourLevel (performedAll_cfg _ _ |>.trans (performedAll_cfg _ s)),
    afterShow_eq (showPins_fourLevel s _ _), ← performedAll_nestedInit_fbLen s]
  rfl

/-- Settles O11: a show of one white plane. -/
theorem clear1BShowsWhite : Obligations.Clear1BShowsWhite := by
  intro s hidle hawake hattached
  refine start_endsQuietly hidle (exec_clear1B_of_awake hidle hawake hattached) ?_
  rw [clear1BBody, performedAll_append, performedAll_append, performedAll_showOneBit (performedAll_cfg _ s),
    afterShow_eq (showPins_oneBit s _)]
  rfl

/-- Settles O12: a show of two white planes. -/
theorem clear4LShowsWhiteTwice : Obligations.Clear4LShowsWhiteTwice := by
  intro s hidle hawake hattached
  refine start_endsQuietly hidle (exec_clear4L_of_awake hidle hawake hattached) ?_
  rw [clear4LBody, performedAll_append, performedAll_append, performedAll_showFourLevel (performedAll_cfg _ s),
    afterShow_eq (showPins_fourLevel s _ _)]
  rfl

/-- Settles O14: the wait performs its samples and delays, and the turn after it ends the operation. -/
theorem waitIdleDelaysOncePerBusySample : Obligations.WaitIdleDelaysOncePerBusySample := by
  intro s k hidle hattached
  refine ⟨{ s with seq := .busy .waitIdle 0 false [.poll] }, exec_waitIdle_of_attached hidle hattached, rfl, ?_⟩
  obtain ⟨idx', hwait⟩ := runsTo_wait k (s := { s with seq := .busy .waitIdle 0 false [.poll] }) rfl
  simpa only [complete, hidle, waitEvents, List.append_assoc] using runsTo_append hwait (runsTo_end rfl)

/-- Settles O37: the tag is checked after the DriverState and before the attachment. -/
theorem wrongFrameTagStops : Obligations.WrongFrameTagStops := fun _ hidle =>
  ⟨fun hawake htag => (whenIdle_of_idle _ hidle).trans
      ((whenAwake_of_awake _ hawake).trans (whenTagged_of_untagged _ htag)),
    fun hawake htag => (whenIdle_of_idle _ hidle).trans
      ((whenAwake_of_awake _ hawake).trans (whenTagged_of_untagged _ htag)),
    fun htag => (whenIdle_of_idle _ hidle).trans (whenTagged_of_untagged _ htag)⟩

end
end

section
/-! PROOFS. The byte traces of INIT, the displays and the clears, whatever the busy samples (O39, O40): what a run of
turns with no failing event ends with is fixed by the list the operation starts on (41_protocol_driver R142). -/

namespace Sys2Proof.Machine

open Sys2Proof.Safety

/-! ### INIT from its start -/

theorem init_started {s t : State} {fast : Bool} (hidle : s.seq = .idle) (h : exec (.init fast) s = .next t)
    (ht : busyOp t = true) :
    t = { s with seq := .busy (.init fast) 0 false (.write (.preferFast fast) :: initBody fast) } := by
  cases whenAttached_busy ((whenIdle_of_idle _ hidle).symm.trans h) ht
  rfl

/-- A block just reset would take the nested INIT, which is `INIT_BODY`. -/
theorem initBody_bytes (c : Config) (f : Bool) : (initBody f).flatMap (microBytes c) = initBytes c f :=
  nestedInit_bytes { State.resetWith c with prefFast := f }

theorem init_bytesAtEnd (s : State) (op : Instr) (fast : Bool) :
    bytesAtEnd { s with seq := .busy op 0 false (.write (.preferFast fast) :: initBody fast) } =
      byteTrace s.trace ++ initBytes s.cfg fast := by
  rw [bytesAtEnd_of_started (List.forall_mem_cons.mpr ⟨rfl, initBody_byteFree fast⟩), ← initBody_bytes]
  rfl

/-- An operation that runs ends without error where no event of it fails (41_protocol_driver R130 step 6). -/
theorem run_unfailing_noError (levels : List Level) {s u : State} (hbusy : busyOp s = true)
    (hrun : Host.Core.run Sys2Proof.core levels.length { s with inputs := unfailingTurns levels } = .next u)
    (hu : u.seq = .idle) : u.err = .none := by
  refine run_unfailing_keeps (P := fun x => x.seq = .idle → x.err = .none) (fun hturn hs => ?_)
    (fun _ _ hs => hs) levels hrun (fun hidle => absurd hidle ((busyOp_iff_not_idle s).mp hbusy)) hu
  cases hturn with
  | idle => exact hs
  | ended => exact fun _ => rfl
  | emitFailed _ hf => exact absurd hf nofun
  | sampleFailed _ hf => exact absurd hf nofun
  | wrote => simp
  | emitted | sampled | called | skipped => exact nofun

/-! ### A clear from its start -/

theorem clear1B_started {s t : State} (hidle : s.seq = .idle) (h : exec .clear1B s = .next t)
    (ht : busyOp t = true) : t = { s with seq := .busy .clear1B 0 false (clear1BBody s) } := by
  cases whenAttached_busy (whenAwake_busy ((whenIdle_of_idle _ hidle).symm.trans h) ht) ht
  rfl

theorem clear4L_started {s t : State} (hidle : s.seq = .idle) (h : exec .clear4L s = .next t)
    (ht : busyOp t = true) : t = { s with seq := .busy .clear4L 0 false (clear4LBody s) } := by
  cases whenAttached_busy (whenAwake_busy ((whenIdle_of_idle _ hidle).symm.trans h) ht) ht
  rfl

/-- The bytes a clear ends with: those of the nested INIT, where it is taken, and those of its show. -/
theorem clear_bytesAtEnd (s : State) (op : Instr) {shown : List Micro} {bytes : List WireByte}
    (hfree : ∀ m ∈ shown, byteFree m = true) (hbytes : shown.flatMap (microBytes s.cfg) = bytes) :
    bytesAtEnd { s with seq := .busy op 0 false (nestedInit s ++ shown ++ [.write .refreshed]) } =
      byteTrace s.trace ++ nestedInitBytes s ++ bytes := by
  have hall : ∀ m ∈ nestedInit s ++ shown ++ [.write .refreshed], byteFree m = true := by
    simp only [List.forall_mem_append]
    exact ⟨⟨nestedInit_byteFree s, hfree⟩, by decide⟩
  rw [bytesAtEnd_of_started hall]
  simp [nestedInit_bytes, hbytes, microBytes]

end Sys2Proof.Machine

section

open Sys2Proof Sys2Proof.Machine Sys2Proof.Safety

/-- Settles O39: the bytes, the DriverState and the preference are fixed when INIT starts. -/
theorem initByteTraceIgnoresThePanel : Obligations.InitByteTraceIgnoresThePanel := by
  intro s t u fast levels hidle hexec hbusy hrun hend
  have hnoError := run_unfailing_noError levels hbusy hrun hend
  obtain ⟨hbytes, hregisters⟩ := run_unfailing_end levels hrun hend
  rw [init_started hidle hexec hbusy] at hbytes hregisters
  rw [init_bytesAtEnd] at hbytes
  exact ⟨hbytes, congrArg State.dstate hregisters, hnoError, congrArg State.prefFast hregisters⟩

/-- Settles O40: the bytes are fixed by the list each of the four operations starts on. -/
theorem showByteTracesIgnoreThePanel : Obligations.ShowByteTracesIgnoreThePanel := by
  intro s t u i levels hidle hexec hbusy hrun hend
  obtain ⟨hbytes, -⟩ := run_unfailing_end levels hrun hend
  rw [hbytes]
  refine ⟨?_, ?_, ?_, ?_⟩ <;> rintro rfl
  · rw [displayFrame1B_started hidle hexec hbusy, displayFrame1BBody_bytesAtEnd]
  · rw [displayFrame4L_started hidle hexec hbusy, displayFrame4LBody_bytesAtEnd]
  · rw [clear1B_started hidle hexec hbusy]
    exact clear_bytesAtEnd s _ (showOneBit_byteFree _ s) (showOneBit_bytes _ s)
  · rw [clear4L_started hidle hexec hbusy]
    exact clear_bytesAtEnd s _ (showFourLevel_byteFree _ _ s) (showFourLevel_bytes _ _ s)

end
end

section
/-! PROOFS. The three pure functions of the Pixel Encoder, bit by bit (O24 to O28): every loop of `pack1` and of
`derive` acts on one bit at a time, and each packed byte holds the top two bits of its four samples. -/

namespace Sys2Proof

/-- A plane has one bit for each pixel (20_memory R42). -/
theorem Config.planeLen_bits {c : Config} (h : c.Admitted) : 8 * c.planeLen = c.w * c.h := by
  obtain ⟨hw, -⟩ := h
  have hceil : 8 * ceilDiv c.w 8 = c.w := by unfold ceilDiv; omega
  rw [Config.planeLen, ← Nat.mul_assoc, hceil]

namespace Machine

/-! ### The loops, bit by bit -/

/-- Where each iteration keeps an observed bit or clears it, the loop keeps it if every iteration does. -/
theorem foldl_clears {α β : Type} {f : β → α → β} {bit : β → Bool} {keeps : α → Bool}
    (hf : ∀ out a, bit (f out a) = (bit out && keeps a)) (l : List α) (out : β) :
    bit (l.foldl f out) = (bit out && l.all keeps) := by
  induction l generalizing out with
  | nil => simp
  | cons a l ih => rw [List.foldl_cons, ih, hf, List.all_cons, Bool.and_assoc]

/-- Where each iteration keeps an observed bit or sets it, the loop sets it if some iteration does. -/
theorem foldl_sets {α β : Type} {f : β → α → β} {bit : β → Bool} {sets : α → Bool}
    (hf : ∀ out a, bit (f out a) = (bit out || sets a)) (l : List α) (out : β) :
    bit (l.foldl f out) = (bit out || l.any sets) := by
  induction l generalizing out with
  | nil => simp
  | cons a l ih => rw [List.foldl_cons, ih, hf, List.any_cons, Bool.or_assoc]

/-! ### `pack1` (42_pixel_encoder R152) -/

/-- The bit of linear address `a` in a one-bit buffer, most significant bit first (42_pixel_encoder R152). -/
def pixelBit (a : Nat) (out : List Byte) : Bool := (out.getD (a / 8) 0).getLsbD (7 - a % 8)

/-- The mask of an address has the one bit of that address. -/
theorem pixelMask_getLsbD (a : Nat) {k : Nat} (hk : k < 8) :
    (pixelMask a).getLsbD (7 - k) = decide (a % 8 = k) := by
  have hbit : (0x80#8).getLsbD (a % 8 + (7 - k)) = decide (a % 8 + (7 - k) = 7) := by
    have htop : ∀ n < 15, (0x80#8).getLsbD n = decide (n = 7) := by decide
    exact htop _ (by omega)
  rw [pixelMask, BitVec.getLsbD_ushiftRight, hbit]
  exact decide_eq_decide.mpr (by omega)

/-- One iteration of `pack1` clears the bit of its own address, if its pixel is black, and no other. -/
theorem pixelBit_pack1Pixel (a w : Nat) (p : Nat → Nat → Byte) (py : Nat) (out : List Byte) (px : Nat) :
    pixelBit a (pack1Pixel w p py out px) =
      (pixelBit a out && decide (px + py * w = a → p px py ≠ 0)) := by
  unfold pack1Pixel
  split
  case isFalse hwhite => rw [decide_eq_true fun _ => hwhite, Bool.and_true]
  case isTrue hblack =>
    have hclears : decide (px + py * w = a → p px py ≠ 0) = !decide (px + py * w = a) := by simp [hblack]
    rw [hclears, pixelBit, pixelBit, List.getD_eq_getElem?_getD, List.getD_eq_getElem?_getD, List.getElem?_modify]
    by_cases hbyte : (px + py * w) / 8 = a / 8
    · have hpixel : decide (px + py * w = a) = decide ((px + py * w) % 8 = a % 8) :=
        decide_eq_decide.mpr (by omega)
      have hmask := pixelMask_getLsbD (px + py * w) (Nat.mod_lt a (by decide : 8 > 0))
      have hin : 7 - a % 8 < 8 := by omega
      rw [hpixel, ← hmask]
      cases out[a / 8]? with
      | none => simp
      | some b => simp [hbyte, hin]
    · have hother : px + py * w ≠ a := fun h => hbyte (h ▸ rfl)
      simp [hbyte, hother]

/-- The loops leave a bit set exactly where no pixel of its address is black. -/
theorem pixelBit_pack1_loops (a : Nat) (c : Config) (p : Nat → Nat → Byte) :
    pixelBit a (pack1 c p) =
      (pixelBit a (List.replicate c.planeLen Config.white) &&
        (List.range c.h).all fun py => (List.range c.w).all fun px => decide (px + py * c.w = a → p px py ≠ 0)) :=
  foldl_clears (bit := pixelBit a)
    (fun out py => foldl_clears (fun out px => pixelBit_pack1Pixel a c.w p py out px) (List.range c.w) out) _ _

theorem pixelBit_white {a n : Nat} (h : a / 8 < n) : pixelBit a (List.replicate n Config.white) = true := by
  have hones : ∀ k < 8, Config.white.getLsbD k = true := by decide
  rw [pixelBit, List.getD_replicate _ h]
  exact hones _ (by omega)

/-- Each linear address below `W * H` is the address of one pixel. -/
theorem pixelBit_pack1 {a : Nat} {c : Config} (h : c.Admitted) (ha : a < c.w * c.h) (p : Nat → Nat → Byte) :
    pixelBit a (pack1 c p) = decide (p (a % c.w) (a / c.w) ≠ 0) := by
  have hbyte : a / 8 < c.planeLen := by
    have hbits := Config.planeLen_bits h
    omega
  have hpos : 0 < c.w := by
    obtain ⟨-, hw, -⟩ := h
    omega
  rw [pixelBit_pack1_loops, pixelBit_white hbyte, Bool.true_and, Bool.eq_iff_iff]
  simp only [List.all_eq_true, List.mem_range, decide_eq_true_eq]
  constructor
  · intro hall
    exact hall _ (Nat.div_lt_of_lt_mul ha) _ (Nat.mod_lt _ hpos) (Nat.mod_add_div' a c.w)
  · rintro hwhite py - px hpx rfl
    rwa [Nat.add_mul_mod_self_right, Nat.mod_eq_of_lt hpx, Nat.add_mul_div_right _ _ hpos, Nat.div_eq_of_lt hpx,
      Nat.zero_add] at hwhite

/-! ### `pack4` (42_pixel_encoder R153) -/

/-- Element `row * n + col` of the rows put one after the other is element `col` of row `row`. -/
theorem getElem?_rows {n h row col : Nat} (f : Nat → Nat → Byte) (hrow : row < h) (hcol : col < n) :
    ((List.range h).flatMap fun y => (List.range n).map (f y))[row * n + col]? = some (f row col) := by
  induction h with
  | zero => omega
  | succ h ih =>
    have hlen : ((List.range h).flatMap fun y => (List.range n).map (f y)).length = h * n := by
      simp [List.length_flatMap]
    rw [List.range_succ, List.flatMap_append]
    obtain hlt | rfl := Nat.lt_succ_iff_lt_or_eq.mp hrow
    · have hin : row * n + col < h * n := by
        calc row * n + col < (row + 1) * n := by rw [Nat.add_mul]; omega
          _ ≤ h * n := Nat.mul_le_mul_right n hlt
      rw [List.getElem?_append_left (hlen ▸ hin), ih hlt]
    · rw [List.getElem?_append_right (by omega), hlen, Nat.add_sub_cancel_left]
      simp [hcol]

theorem pack4_getD (c : Config) (p : Nat → Nat → Byte) {py g : Nat} (hpy : py < c.h) (hg : g < c.w / 4) :
    (pack4 c p).getD (py * (c.w / 4) + g) 0 =
      packSamples (p (4 * g) py) (p (4 * g + 1) py) (p (4 * g + 2) py) (p (4 * g + 3) py) := by
  rw [List.getD_eq_getElem?_getD, pack4, getElem?_rows _ hpy hg, Option.getD_some]

/-- The four lanes of a packed byte do not overlap: each is the top two bits of its sample (42_pixel_encoder R161). -/
theorem packSamples_lane (v : Nat → Byte) {m : Nat} (hm : m ≤ 3) :
    (packSamples (v 0) (v 1) (v 2) (v 3)).extractLsb' (6 - 2 * m) 2 = (v m).extractLsb' 6 2 := by
  ext i hi
  interval_cases m <;> interval_cases i <;> simp [packSamples, sampleCode]

/-! ### `derive` (42_pixel_encoder R154, R155) -/

theorem codeAt_eq_extractLsb' (b : Byte) (m : Nat) : codeAt b m = b.extractLsb' (6 - 2 * m) 2 := rfl

theorem bwBit_levelOfCode (code : BitVec 2) : bwBit (levelOfCode code) = code.getLsbD 0 := by
  revert code; decide

theorem redBit_levelOfCode (code : BitVec 2) : redBit (levelOfCode code) = code.getLsbD 1 := by
  revert code; decide

/-- A bit moved to place `m` stands there and nowhere else. -/
theorem ofBool_shifted_getLsbD (b : Bool) (m : Nat) {n : Nat} (hn : n < 8) :
    ((BitVec.ofBool b).setWidth 8 <<< m).getLsbD n = (decide (m = n) && b) := by
  have hplace : (!decide (n < m) && decide (n - m = 0)) = decide (m = n) := by
    rw [Bool.eq_iff_iff, Bool.and_eq_true, Bool.not_eq_true', decide_eq_false_iff_not, decide_eq_true_iff,
      decide_eq_true_iff]
    omega
  simp [hn, BitVec.getLsbD_ofBool, ← hplace, Bool.and_assoc]

/-- The loop over the eight samples sets bit `7 - k` by sample `k` alone. -/
theorem deriveByte_getLsbD (table : GrayLevel → Bool) (pk : List Byte) (i : Nat) {k : Nat} (hk : k < 8) :
    (deriveByte table pk i).getLsbD (7 - k) = table (levelOfCode (deriveCode pk i k)) := by
  have hstep (acc : Byte) (j : Nat) :
      (acc ||| (BitVec.ofBool (table (levelOfCode (deriveCode pk i j)))).setWidth 8 <<< (7 - j)).getLsbD (7 - k) =
        (acc.getLsbD (7 - k) || (decide (7 - j = 7 - k) && table (levelOfCode (deriveCode pk i j)))) := by
    rw [BitVec.getLsbD_or, ofBool_shifted_getLsbD _ _ (by omega)]
  rw [deriveByte, foldl_sets (bit := fun acc : Byte => acc.getLsbD (7 - k)) hstep, Bool.eq_iff_iff]
  simp only [BitVec.ofNat_eq_ofNat, BitVec.getLsbD_zero, Bool.false_or, List.any_eq_true, List.mem_range,
    Bool.and_eq_true, decide_eq_true_eq]
  constructor
  · rintro ⟨j, hj, hplace, hset⟩
    obtain rfl : j = k := by omega
    exact hset
  · exact fun hset => ⟨k, hk, rfl, hset⟩

/-- A byte of a plane is the byte the loop makes (42_pixel_encoder R154). -/
theorem derivePlane_getD (table : GrayLevel → Bool) {pk : List Byte} {i : Nat} (hi : i < pk.length / 2) :
    (derivePlane table pk).getD i 0 = deriveByte table pk i := by
  simp [derivePlane, hi]

theorem deriveCode_getLsbD (pk : List Byte) (i k : Nat) {j : Nat} (hj : j < 2) :
    (deriveCode pk i k).getLsbD j = (pk.getD (2 * i + k / 4) 0).getLsbD (6 - 2 * (k % 4) + j) := by
  rw [deriveCode, codeAt_eq_extractLsb', BitVec.getLsbD_extractLsb', decide_eq_true hj, Bool.true_and]

/-! ### Uniform grids (95_test_vectors S3) -/

theorem pack4_uniform {c : Config} (h : c.Admitted) (v : Byte) :
    pack4 c (fun _ _ => v) = List.replicate c.packedLen (packSamples v v v v) := by
  refine List.eq_replicate_iff.mpr ⟨length_pack4 h _, fun b hb => ?_⟩
  obtain ⟨py, -, hrow⟩ := List.mem_flatMap.mp hb
  obtain ⟨g, -, rfl⟩ := List.mem_map.mp hrow
  rfl

/-- Every code a uniform buffer holds is the top two bits of its sample. -/
theorem deriveCode_uniform (v : Byte) {n i k : Nat} (hi : i < n / 2) (hk : k < 8) :
    deriveCode (List.replicate n (packSamples v v v v)) i k = v.extractLsb' 6 2 := by
  rw [deriveCode, List.getD_replicate _ (by omega), codeAt_eq_extractLsb']
  exact packSamples_lane (fun _ => v) (by omega)

theorem uniformByte_getLsbD (b : Bool) {n : Nat} (hn : n < 8) : (if b then 0xFF#8 else 0x00#8).getLsbD n = b := by
  revert n b
  decide

/-- A plane of a uniform buffer is uniform, all ones or all zeros by what the truth table says of its code. -/
theorem derivePlane_uniform (table : GrayLevel → Bool) {c : Config} (h : c.Admitted) (v : Byte) :
    derivePlane table (pack4 c (fun _ _ => v)) =
      List.replicate c.planeLen (if table (levelOfCode (v.extractLsb' 6 2)) then 0xFF else 0x00) := by
  have hhalf : c.packedLen / 2 = c.planeLen := by rw [Config.packedLen_eq h]; omega
  rw [pack4_uniform h]
  refine List.eq_replicate_iff.mpr ⟨by simp [hhalf], fun b hb => ?_⟩
  obtain ⟨i, hi, rfl⟩ := List.mem_map.mp hb
  rw [List.mem_range, List.length_replicate] at hi
  refine BitVec.eq_of_getLsbD_eq fun n hn => ?_
  obtain ⟨k, hk, rfl⟩ : ∃ k < 8, n = 7 - k := ⟨7 - n, by omega, by omega⟩
  rw [deriveByte_getLsbD table _ i hk, deriveCode_uniform v hi hk]
  exact (uniformByte_getLsbD _ hn).symm

/-! ### The levels of the samples (42_pixel_encoder R155) -/

theorem levelOfCode_iff (code : BitVec 2) :
    (levelOfCode code = .white ↔ code.toNat = 3) ∧ (levelOfCode code = .gray1 ↔ code.toNat = 2) ∧
    (levelOfCode code = .gray2 ↔ code.toNat = 1) ∧ (levelOfCode code = .black ↔ code.toNat = 0) := by
  revert code; decide

theorem topTwoBits_toNat (v : Byte) : (v.extractLsb' 6 2).toNat = v.toNat / 64 := by
  rw [BitVec.extractLsb'_toNat, Nat.shiftRight_eq_div_pow]
  omega

end Machine

end Sys2Proof

section

open Sys2Proof Sys2Proof.Machine

/-- Settles O24: each pixel's iteration clears its own bit, and each address below `W * H` has one pixel. -/
theorem pack1ClearsExactlyTheBlackPixels : Obligations.Pack1ClearsExactlyTheBlackPixels := by
  intro c p h
  refine ⟨length_pack1 c p, fun i k hi hk => ?_⟩
  have haddress : 8 * i + k < c.w * c.h := by
    have hbits := Config.planeLen_bits h
    rw [Config.planeLen] at hbits
    omega
  have hbit := pixelBit_pack1 h haddress p
  rwa [pixelBit, show (8 * i + k) / 8 = i by omega, show (8 * i + k) % 8 = k by omega] at hbit

/-- Settles O25, group by group. -/
theorem pack4KeepsTheTopTwoBits : Obligations.Pack4KeepsTheTopTwoBits := by
  intro c p h
  refine ⟨length_pack4 h p, fun py g m hpy hg hm => ?_⟩
  rw [pack4_getD c p hpy hg]
  exact packSamples_lane (fun m => p (4 * g + m) py) hm

/-- Settles O26: bit `7 - k` is set by sample `k`, by bit 0 of its code in BW and by bit 1 in RED. -/
theorem deriveSplitsTheCodes : Obligations.DeriveSplitsTheCodes := by
  intro pk _
  refine ⟨length_derivePlane bwBit pk, length_derivePlane redBit pk, fun i k hi hk => ⟨?_, ?_⟩⟩
  · rw [deriveBw, derivePlane_getD bwBit hi, deriveByte_getLsbD _ _ _ (by omega), bwBit_levelOfCode]
    exact deriveCode_getLsbD pk i k (by decide)
  · rw [deriveRed, derivePlane_getD redBit hi, deriveByte_getLsbD _ _ _ (by omega), redBit_levelOfCode]
    exact deriveCode_getLsbD pk i k (by decide)

/-- Settles O28: the code of every sample is the top two bits, of which BW takes the lower and RED the upper. -/
theorem uniformGridGivesUniformPlanes : Obligations.UniformGridGivesUniformPlanes := by
  intro c v h
  constructor
  · rw [deriveBw, derivePlane_uniform bwBit h, bwBit_levelOfCode]
    simp
  · rw [deriveRed, derivePlane_uniform redBit h, redBit_levelOfCode]
    simp

/-- Settles O27: the code of a sample is its quotient by 64. -/
theorem truthTablesOfTheFourLevels : Obligations.TruthTablesOfTheFourLevels := by
  refine ⟨by decide, by decide, by decide, by decide, fun code => ⟨bwBit_levelOfCode code, redBit_levelOfCode code⟩,
    fun v => ?_⟩
  obtain ⟨hwhite, hgray1, hgray2, hblack⟩ := levelOfCode_iff (v.extractLsb' 6 2)
  have hv := v.isLt
  rw [hwhite, hgray1, hgray2, hblack, topTwoBits_toNat]
  omega

end
end

section
/-! PROOFS. The operations of the Pixel Encoder (O20 to O23, O29, O30): the panel grid, the one state write each
operation makes, and what an ENCODE reads of the state. -/

namespace Sys2Proof.Machine

open Sys2Proof.Safety

/-! ### The panel grid (42_pixel_encoder R151) -/

/-- The test for the direct orientation comes first, so the three answers exclude each other on a square panel too. -/
theorem orientation_iff (c : Config) (gw gh : Nat) :
    (orientation c gw gh = some .direct ↔ gw = c.w ∧ gh = c.h) ∧
    (orientation c gw gh = some .transposed ↔ (gw = c.h ∧ gh = c.w) ∧ ¬(gw = c.w ∧ gh = c.h)) ∧
    (orientation c gw gh = none ↔ ¬(gw = c.w ∧ gh = c.h) ∧ ¬(gw = c.h ∧ gh = c.w)) := by
  unfold orientation
  by_cases hdirect : gw = c.w ∧ gh = c.h
  · simp [hdirect]
  · by_cases hturned : gw = c.h ∧ gh = c.w
    · rw [if_neg hdirect, if_pos hturned]
      exact ⟨⟨nofun, fun h => absurd h hdirect⟩, ⟨fun _ => ⟨hturned, hdirect⟩, fun _ => rfl⟩,
        ⟨nofun, fun ⟨_, h⟩ => absurd hturned h⟩⟩
    · rw [if_neg hdirect, if_neg hturned]
      simp [hdirect, hturned]

theorem gridWritten_iff (s : State) (o : Orientation) :
    gridWritten s o = true ↔ ∀ px py, px < s.cfg.w → py < s.cfg.h → (gridElement s o px py).isSome = true := by
  simp only [gridWritten, List.all_eq_true, List.mem_range]
  exact ⟨fun h px py hx hy => h py hy px hx, fun h py hy px hx => h px py hx hy⟩

/-- Under a written grid the panel grid has no default element. -/
theorem gridElement_eq_panelGrid {s : State} {o : Orientation} (h : gridWritten s o = true) {px py : Nat}
    (hx : px < s.cfg.w) (hy : py < s.cfg.h) : gridElement s o px py = some (panelGrid s o px py) := by
  obtain ⟨b, hb⟩ := Option.isSome_iff_exists.mp ((gridWritten_iff s o).mp h px py hx hy)
  rw [panelGrid, hb, Option.getD_some]

/-! ### What a packing reads -/

/-- Two panel grids that agree on the panel. -/
def AgreeOn (c : Config) (p q : Nat → Nat → Byte) : Prop := ∀ px py, px < c.w → py < c.h → p px py = q px py

/-- A loop over two bodies that agree on its range. -/
theorem pack1_congr {c c' : Config} (hw : c'.w = c.w) (hh : c'.h = c.h) {p q : Nat → Nat → Byte}
    (h : AgreeOn c p q) : pack1 c p = pack1 c' q := by
  rw [pack1, pack1, Config.planeLen, Config.planeLen, hw, hh]
  refine List.foldl_ext _ _ _ fun out py hpy => List.foldl_ext _ _ _ fun out px hpx => ?_
  rw [pack1Pixel, pack1Pixel, h px py (List.mem_range.mp hpx) (List.mem_range.mp hpy)]

/-- The samples of a group are the samples of four columns of the panel. -/
theorem pack4_congr {c c' : Config} (hw : c'.w = c.w) (hh : c'.h = c.h) {p q : Nat → Nat → Byte}
    (h : AgreeOn c p q) : pack4 c p = pack4 c' q := by
  rw [pack4, pack4, hw, hh]
  refine List.flatMap_congr fun py hpy => List.map_congr_left fun g hg => ?_
  have hsample (m : Nat) (hm : m < 4) : p (4 * g + m) py = q (4 * g + m) py := by
    have hgroup := List.mem_range.mp hg
    exact h _ _ (by omega) (List.mem_range.mp hpy)
  rw [hsample 1 (by decide), hsample 2 (by decide), hsample 3 (by decide)]
  exact congrArg (packSamples · _ _ _) (hsample 0 (by decide))

/-! ### The two ENCODEs (42_pixel_encoder R156, R157) -/

/-- ENCODE of a mode. -/
def encodeInstr : ColorMode → Instr
  | .oneBit => .encode1B
  | .fourLevel => .encode4L

/-- The packing ENCODE of a mode applies. -/
def packOf : ColorMode → Config → (Nat → Nat → Byte) → List Byte
  | .oneBit => pack1
  | .fourLevel => pack4

theorem exists_encodeInstr {i : Instr} (h : i = .encode1B ∨ i = .encode4L) : ∃ m, i = encodeInstr m := by
  obtain rfl | rfl := h
  · exact ⟨.oneBit, rfl⟩
  · exact ⟨.fourLevel, rfl⟩

theorem exec_encodeInstr {s : State} (m : ColorMode) (hidle : s.seq = .idle) :
    exec (encodeInstr m) s = encodeGrid (encodeInstr m) m (packOf m) s := by
  cases m <;> exact whenIdle_of_idle _ hidle

theorem packOf_congr (m : ColorMode) {c c' : Config} (hw : c'.w = c.w) (hh : c'.h = c.h) {p q : Nat → Nat → Byte}
    (h : AgreeOn c p q) : packOf m c p = packOf m c' q := by
  cases m with
  | oneBit => exact pack1_congr hw hh h
  | fourLevel => exact pack4_congr hw hh h

/-- The host has written a grid of one of the two orientations: all an ENCODE asks of an idle block. -/
structure GridGiven (s : State) (o : Orientation) : Prop where
  widthSet : s.imgWSet = true
  heightSet : s.imgHSet = true
  oriented : orientation s.cfg s.imgW.toNat s.imgH.toNat = some o
  written : gridWritten s o = true

/-- The buffer ENCODE of mode `m` writes over a grid of orientation `o`. -/
def encodedFrame (m : ColorMode) (s : State) (o : Orientation) : List Byte := packOf m s.cfg (panelGrid s o)

/-- Where ENCODE of mode `m` over a grid of orientation `o` ends. -/
def afterEncode (m : ColorMode) (s : State) (o : Orientation) : State :=
  { applyWrite (.frame m (encodedFrame m s o)) s with err := .none, done := true }

/-- Over a given grid ENCODE starts, on the one write of its frame. -/
theorem encodeGrid_of_given {s : State} {o : Orientation} (h : GridGiven s o) (op : Instr) (m : ColorMode) :
    encodeGrid op m (packOf m) s = start op [.write (.frame m (encodedFrame m s o))] s := by
  simp only [encodeGrid, h.widthSet, h.heightSet, h.oriented, h.written, Bool.and_self, if_true, encodedFrame]

/-- The other answers of the common part do not start (60_exceptions R172; 93_implementation_defined U10). -/
theorem gridGiven_of_encodeGrid_busy {op : Instr} {m : ColorMode} {pack : Config → (Nat → Nat → Byte) → List Byte}
    {s t : State} (h : encodeGrid op m pack s = .next t) (ht : busyOp t = true) : ∃ o, GridGiven s o := by
  unfold encodeGrid at h
  split at h
  case isFalse => exact absurd h nofun
  case isTrue hset =>
    obtain ⟨hw, hh⟩ := Bool.and_eq_true_iff.mp hset
    split at h
    next =>
      cases h
      exact absurd ht nofun
    next o ho =>
      split at h
      case isTrue hwritten => exact ⟨o, hw, hh, ho, hwritten⟩
      case isFalse => exact absurd h nofun

/-- ENCODE over a given grid writes its frame and ends. -/
theorem encode_endsQuietly {s : State} {o : Orientation} (m : ColorMode) (hidle : s.seq = .idle) (h : GridGiven s o) :
    ∃ t, exec (encodeInstr m) s = .next t ∧ busyOp t = true ∧ endsQuietly t (afterEncode m s o) :=
  start_endsQuietly hidle ((exec_encodeInstr m hidle).trans (encodeGrid_of_given h _ m)) rfl

/-- ENCODEs of one mode that write the same bytes leave the same frame, tag included. -/
theorem afterEncode_frame_eq {m : ColorMode} {s s' : State} {o o' : Orientation}
    (h : encodedFrame m s' o' = encodedFrame m s o) :
    (afterEncode m s' o').fb = (afterEncode m s o).fb ∧ (afterEncode m s' o').fbLen = (afterEncode m s o).fbLen ∧
      (afterEncode m s' o').fbMode = (afterEncode m s o).fbMode := by
  simp only [afterEncode, applyWrite, h, and_self]

theorem length_encodedFrame {s : State} (h : s.cfg.Admitted) (m : ColorMode) (o : Orientation) :
    (encodedFrame m s o).length = s.cfg.frameLen m := by
  cases m with
  | oneBit => exact length_pack1 s.cfg _
  | fourLevel => exact length_pack4 h _

/-! ### One grid under two states (42_pixel_encoder R150) -/

/-- Two states that agree on the geometry, the grid and its dimensions. -/
structure SameGrid (s s' : State) : Prop where
  width : s'.cfg.w = s.cfg.w
  height : s'.cfg.h = s.cfg.h
  img : s'.img = s.img
  imgW : s'.imgW = s.imgW
  imgH : s'.imgH = s.imgH
  imgWSet : s'.imgWSet = s.imgWSet
  imgHSet : s'.imgHSet = s.imgHSet

theorem SameGrid.gridElement_eq {s s' : State} (h : SameGrid s s') (o : Orientation) :
    gridElement s' o = gridElement s o := by
  funext px py
  have hx : gridX s'.cfg o px py = gridX s.cfg o px py := by
    cases o with
    | direct => rfl
    | transposed => rw [gridX, gridX, h.height]
  rw [gridElement, gridElement, hx, h.img]

theorem SameGrid.gridGiven {s s' : State} {o : Orientation} (h : SameGrid s s') (hs : GridGiven s o) :
    GridGiven s' o where
  widthSet := h.imgWSet.trans hs.widthSet
  heightSet := h.imgHSet.trans hs.heightSet
  oriented := by rw [← hs.oriented, orientation, orientation, h.width, h.height, h.imgW, h.imgH]
  written := by rw [← hs.written, gridWritten, gridWritten, h.width, h.height, h.gridElement_eq]

theorem SameGrid.encodedFrame_eq {s s' : State} (h : SameGrid s s') (m : ColorMode) (o : Orientation) :
    encodedFrame m s' o = encodedFrame m s o :=
  (packOf_congr m h.width h.height fun px py _ _ => by rw [panelGrid, panelGrid, h.gridElement_eq]).symm

/-! ### A grid and its rotation (42_pixel_encoder R160) -/

/-- `s` holds a transposed grid, all of it written, and `s'` the grid a quarter turn from it. -/
structure Rotated (s s' : State) : Prop where
  cfg : s'.cfg = s.cfg
  written : ∀ x y, x < s.cfg.h → y < s.cfg.w → (s.img.read (imgAddr x y)).isSome = true
  turned : ∀ px py, px < s.cfg.w → py < s.cfg.h →
    s'.img.read (imgAddr px py) = s.img.read (imgAddr (s.cfg.h - 1 - py) px)

/-- The two grids have the same element under each panel position. -/
theorem Rotated.gridElement_eq {s s' : State} (h : Rotated s s') {px py : Nat} (hx : px < s.cfg.w)
    (hy : py < s.cfg.h) : gridElement s .transposed px py = gridElement s' .direct px py :=
  (h.turned px py hx hy).symm

theorem Rotated.transposed_written {s s' : State} (h : Rotated s s') : gridWritten s .transposed = true :=
  (gridWritten_iff s _).mpr fun px py hx _ => h.written (s.cfg.h - 1 - py) px (by omega) hx

theorem Rotated.direct_written {s s' : State} (h : Rotated s s') : gridWritten s' .direct = true := by
  refine (gridWritten_iff s' _).mpr fun px py hx hy => ?_
  rw [h.cfg] at hx hy
  rw [← h.gridElement_eq hx hy]
  exact (gridWritten_iff s _).mp h.transposed_written px py hx hy

theorem Rotated.encodedFrame_eq {s s' : State} (h : Rotated s s') (m : ColorMode) :
    encodedFrame m s' .direct = encodedFrame m s .transposed :=
  (packOf_congr m (congrArg Config.w h.cfg) (congrArg Config.h h.cfg) fun px py hx hy => by
    rw [panelGrid, panelGrid, h.gridElement_eq hx hy]).symm

/-! ### DERIVE_PLANES (42_pixel_encoder R158) -/

theorem exec_derivePlanes_of_tagged {s : State} (hidle : s.seq = .idle) (hvalid : s.fbValid = true)
    (hmode : s.fbMode = .fourLevel) :
    exec .derivePlanes s =
      start .derivePlanes [.write (.planes (deriveBw (frameBytes s)) (deriveRed (frameBytes s)))] s :=
  (whenIdle_of_idle _ hidle).trans (whenTagged_of_tagged _ hvalid hmode)

end Sys2Proof.Machine

section

open Sys2Proof Sys2Proof.Machine

/-- Settles O20, from the three tests of the dimensions and the one test of the grid. -/
theorem panelGridReadsTheInput : Obligations.PanelGridReadsTheInput := by
  intro s
  refine ⟨orientation_iff s.cfg, gridWritten_iff s .direct, gridWritten_iff s .transposed, ?_, ?_⟩
  · exact fun hwritten px py hx hy => gridElement_eq_panelGrid hwritten hx hy
  · exact fun hwritten px py hx hy => gridElement_eq_panelGrid hwritten hx hy

/-- Settles O21: the one write of ENCODE.1B is that of its frame, of the length of a plane. -/
theorem encode1BWritesTheFrame : Obligations.Encode1BWritesTheFrame := by
  intro s o hadmitted hidle hwidth hheight horiented hwritten
  obtain ⟨t, hexec, hbusy, hend⟩ := encode_endsQuietly .oneBit hidle ⟨hwidth, hheight, horiented, hwritten⟩
  rw [afterEncode, applyWrite, length_encodedFrame hadmitted] at hend
  exact ⟨t, hexec, hbusy, hend⟩

/-- Settles O22: the one write of ENCODE.4L is that of its frame, of the length of a packed buffer. -/
theorem encode4LWritesTheFrame : Obligations.Encode4LWritesTheFrame := by
  intro s o hadmitted hidle hwidth hheight horiented hwritten
  obtain ⟨t, hexec, hbusy, hend⟩ := encode_endsQuietly .fourLevel hidle ⟨hwidth, hheight, horiented, hwritten⟩
  rw [afterEncode, applyWrite, length_encodedFrame hadmitted] at hend
  exact ⟨t, hexec, hbusy, hend⟩

/-- Settles O23: the one write is that of the two planes, which leaves the frame and its tag. -/
theorem derivePlanesWritesBothPlanes : Obligations.DerivePlanesWritesBothPlanes := fun _ hidle hvalid hmode =>
  start_endsQuietly hidle (exec_derivePlanes_of_tagged hidle hvalid hmode) rfl

/-- Settles O29: under each panel position both grids have the same element, and a packing reads nothing else. -/
theorem rotationLaw : Obligations.RotationLaw := by
  intro s s' _ hcfg hsquare hidle hidle' hwset hhset hwset' hhset' hw hh hw' hh' hwritten hturned i hi
  obtain ⟨m, rfl⟩ := exists_encodeInstr hi
  have hrot : Rotated s s' := ⟨hcfg, hwritten, hturned⟩
  obtain ⟨-, htransposed, -⟩ := orientation_iff s.cfg s.imgW.toNat s.imgH.toNat
  obtain ⟨hdirect, -, -⟩ := orientation_iff s'.cfg s'.imgW.toNat s'.imgH.toNat
  have hgiven : GridGiven s .transposed := ⟨hwset, hhset,
    htransposed.mpr ⟨⟨hw, hh⟩, fun ⟨hsame, _⟩ => hsquare (hsame.symm.trans hw)⟩, hrot.transposed_written⟩
  have hgiven' : GridGiven s' .direct := ⟨hwset', hhset', hdirect.mpr (hcfg ▸ ⟨hw', hh'⟩), hrot.direct_written⟩
  obtain ⟨t, hexec, -, hend⟩ := encode_endsQuietly m hidle hgiven
  obtain ⟨t', hexec', -, hend'⟩ := encode_endsQuietly m hidle' hgiven'
  exact ⟨t, t', _, _, hexec, hexec', hend, hend', hidle, hidle', rfl, rfl,
    afterEncode_frame_eq (hrot.encodedFrame_eq m)⟩

/-- Settles O30: an ENCODE that starts has a given grid, and the frame is a function of that grid. -/
theorem encodeDependsOnTheGridAlone : Obligations.EncodeDependsOnTheGridAlone := by
  intro s s' hw hh himg himgW himgH hwset hhset hidle hidle' i t hi hstart hbusy
  obtain ⟨m, rfl⟩ := exists_encodeInstr hi
  have hsame : SameGrid s s' := ⟨hw, hh, himg, himgW, himgH, hwset, hhset⟩
  obtain ⟨o, hgiven⟩ := gridGiven_of_encodeGrid_busy ((exec_encodeInstr m hidle).symm.trans hstart) hbusy
  obtain ⟨_, hexec, -, hend⟩ := encode_endsQuietly m hidle hgiven
  obtain ⟨t', hexec', -, hend'⟩ := encode_endsQuietly m hidle' (hsame.gridGiven hgiven)
  cases hexec.symm.trans hstart
  obtain ⟨hfb, hlen, hmode⟩ := afterEncode_frame_eq (hsame.encodedFrame_eq m o)
  exact ⟨t', _, _, hexec', hend, hend', hidle, hidle', hfb, hlen, hmode, rfl⟩

end
end

section
/-! PROOFS. The errors that end an instruction before its first event (O31 to O35): which error each check raises, and
that raising one changes nothing but ERR (60_exceptions R170 to R176). -/

namespace Sys2Proof.Machine
open Sys2Proof.Safety

/-! ### The errors of the checks -/

/-- Every next state of an answer keeps ERR or has an error of a given kind. -/
def ErrAfter (raised : ErrorCode → Prop) (s : State) (o : Outcome) : Prop :=
  ∀ t, o = .next t → t.err = s.err ∨ raised t.err

theorem errAfter_next {raised : ErrorCode → Prop} {s t : State} (h : t.err = s.err ∨ raised t.err) :
    ErrAfter raised s (.next t) := by
  rintro _ ⟨⟩
  exact h

theorem errAfter_start (raised : ErrorCode → Prop) (op : Instr) (rest : List Micro) (s : State) :
    ErrAfter raised s (start op rest s) :=
  errAfter_next (.inl rfl)

theorem errAfter_raise {raised : ErrorCode → Prop} {e : ErrorCode} (he : raised e) (s : State) :
    ErrAfter raised s (.next (raise e s)) :=
  errAfter_next (.inr he)

theorem ErrAfter.whenIdle {raised : ErrorCode → Prop} {s : State} {o : Outcome} (h : ErrAfter raised s o) :
    ErrAfter raised s (whenIdle s o) := by
  unfold Machine.whenIdle
  split
  · exact errAfter_next (.inl rfl)
  · exact h

theorem ErrAfter.whenAttached {raised : ErrorCode → Prop} {s : State} {o : Outcome} (h : ErrAfter raised s o)
    (he : raised .busFailure) : ErrAfter raised s (whenAttached s o) := by
  unfold Machine.whenAttached
  split
  · exact h
  · exact errAfter_raise he s

theorem ErrAfter.whenAwake {raised : ErrorCode → Prop} {s : State} {o : Outcome} (h : ErrAfter raised s o)
    (he : s.dstate = .sleeping → raised .notReady) : ErrAfter raised s (whenAwake s o) := by
  unfold Machine.whenAwake
  split
  · exact errAfter_raise (he ‹_›) s
  · exact h

theorem ErrAfter.whenTagged {raised : ErrorCode → Prop} {m : ColorMode} {s : State} {o : Outcome}
    (h : ErrAfter raised s o) : ErrAfter raised s (whenTagged m s o) := by
  unfold Machine.whenTagged
  split
  · exact h
  · rintro _ ⟨⟩

/-- A display or clear raises NotReady only while Sleeping, and BusFailure (60_exceptions R173, R174). -/
theorem errAfter_show {raised : ErrorCode → Prop} {s : State} {i : Instr} (hi : needsAwake i = true)
    (hawake : s.dstate = .sleeping → raised .notReady) (hbus : raised .busFailure) : ErrAfter raised s (exec i s) := by
  have hstart (op : Instr) (rest : List Micro) := (errAfter_start raised op rest s).whenAttached hbus
  cases i with
  | displayFrame1B | displayFrame4L => exact (ErrAfter.whenAwake (hstart _ _).whenTagged hawake).whenIdle
  | clear1B | clear4L => exact (ErrAfter.whenAwake (hstart _ _) hawake).whenIdle
  | _ => exact absurd hi nofun

/-- Of the errors, DimensionMismatch is raised by the common part of the two ENCODEs alone (60_exceptions R172). -/
theorem errAfter_not_encode {s : State} {i : Instr} (hi1 : i ≠ .encode1B) (hi4 : i ≠ .encode4L) :
    ErrAfter (· ≠ .dimensionMismatch) s (exec i s) := by
  have hstart (op : Instr) (rest : List Micro) := errAfter_start (· ≠ .dimensionMismatch) op rest s
  cases hpanel : isPanelCommand i with
  | true =>
    cases hseq : s.seq with
    | idle =>
      rw [exec_panel_idle hpanel hseq]
      rintro _ ⟨⟩
    | busy =>
      rw [exec_panel_busy i hpanel hseq]
      exact errAfter_next (.inl rfl)
  | false =>
    cases i <;> simp only [isPanelCommand, Bool.true_eq_false] at hpanel
    case encode1B => exact absurd rfl hi1
    case encode4L => exact absurd rfl hi4
    case displayFrame1B | displayFrame4L | clear1B | clear4L => exact errAfter_show rfl (fun _ => nofun) nofun
    case reset | init | sleep | waitIdle => exact ((hstart _ _).whenAttached nofun).whenIdle
    case derivePlanes => exact (hstart _ _).whenTagged.whenIdle
    case attach =>
      refine ErrAfter.whenIdle ?_
      split
      · exact errAfter_next (.inl rfl)
      · exact hstart _ _
    all_goals exact (errAfter_raise nofun s).whenIdle

/-! ### Errors raised at decode -/

/-- Idle, the decoder's error changes nothing but ERR (60_exceptions R175). -/
theorem raiseAtDecode_idle {s : State} (e : ErrorCode) (hidle : s.seq = .idle) :
    raiseAtDecode e s = .next { s with err := e, done := true } := by
  rw [raiseAtDecode, whenIdle_of_idle _ hidle, raise_idle hidle]

theorem wordMode_getLsbD_one (w : Byte) : (wordMode w).getLsbD 1 = w.getLsbD 5 := by
  simp [wordMode]

theorem byMode_malformed {mode : BitVec 2} (h : mode.getLsbD 1 = true) (a b c : Instr) : byMode mode a b c = c :=
  if_pos h

/-- The instructions of the words that select no operation (60_exceptions R176). -/
def reservedInstrs : List Instr :=
  [.reservedRsv, .reservedOpc0, .reservedOpc7, .reservedOpcA, .reservedOpcB, .reservedOpcC, .reservedOpcD,
    .reservedOpcE, .reservedOpcF]

theorem decodeWord_of_opc {w : Byte} (h : wordRsv w = false) {opc : BitVec 4} (hopc : wordOpc w = opc) :
    decodeWord w = decodeWord (commandWord (wordFast w) (wordMode w) opc) := by
  rw [← hopc, commandWord_of_fields h]

/-- A word with `RSV` 1, or with the `OPC` of no operation, is reserved (30_encoding R74). -/
theorem decodeWord_reserved {w : Byte}
    (h : w.getLsbD 7 = true ∨ w.extractLsb' 0 4 = 0x0 ∨ w.extractLsb' 0 4 = 0x7 ∨ 0xA ≤ (w.extractLsb' 0 4).toNat) :
    decodeWord w ∈ reservedInstrs := by
  revert w
  decide

theorem exec_reserved {s : State} (hidle : s.seq = .idle) {i : Instr} (hi : i ∈ reservedInstrs) :
    exec i s = .next { s with err := .invalidCommand, done := true } := by
  have hraise := raiseAtDecode_idle .invalidCommand hidle
  simp only [reservedInstrs, List.mem_cons, List.not_mem_nil, or_false] at hi
  obtain rfl | rfl | rfl | rfl | rfl | rfl | rfl | rfl | rfl := hi <;> exact hraise

/-! ### Errors of the checks -/

theorem whenAwake_sleeping_idle {s : State} (o : Outcome) (hidle : s.seq = .idle) (h : s.dstate = .sleeping) :
    whenIdle s (whenAwake s o) = .next { s with err := .notReady, done := true } := by
  rw [whenIdle_of_idle _ hidle, whenAwake_of_sleeping o h, raise_idle hidle]

theorem whenAttached_released_idle {s : State} (o : Outcome) (hidle : s.seq = .idle) (h : s.attached = false) :
    whenAttached s o = .next { s with err := .busFailure, done := true } := by
  rw [whenAttached_of_released o h, raise_idle hidle]

theorem encodeGrid_of_mismatch {s : State} (hidle : s.seq = .idle) (hw : s.imgWSet = true) (hh : s.imgHSet = true)
    (ho : orientation s.cfg s.imgW.toNat s.imgH.toNat = none) (op : Instr) (m : ColorMode)
    (pack : Config → (Nat → Nat → Byte) → List Byte) :
    encodeGrid op m pack s = .next { s with err := .dimensionMismatch, done := true } := by
  simp only [encodeGrid, hw, hh, ho, Bool.and_self, if_true, raise_idle hidle]

end Sys2Proof.Machine

section

open Sys2Proof Sys2Proof.Machine Sys2Proof.Safety

/-- Settles O31: bit 5 is `MODE[1]`, which alone makes a mode malformed, and the decoder's error reads no state. -/
theorem malformedModeRaisesInvalidMode : Obligations.MalformedModeRaisesInvalidMode := by
  constructor
  · intro w hrsv hmode
    have hmalformed : (wordMode w).getLsbD 1 = true := (wordMode_getLsbD_one w).trans hmode
    refine ⟨fun hopc => ?_, fun hopc => ?_, fun hopc => ?_⟩
    all_goals
      rw [decodeWord_of_opc hrsv hopc]
      simp [decodeWord, byMode_malformed hmalformed]
  · rintro s hidle i (rfl | rfl | rfl) <;> exact raiseAtDecode_idle .invalidMode hidle

/-- Settles O32: such a word decodes to one of the nine reserved instructions, which all raise the one error. -/
theorem reservedWordRaisesInvalidCommand : Obligations.ReservedWordRaisesInvalidCommand :=
  ⟨fun _ _ hidle h => exec_reserved hidle (decodeWord_reserved h), fun _ hidle _ hi => exec_reserved hidle hi⟩

/-- Settles O33: the DriverState is the first thing checked; awake, only the attachment check raises an error. -/
theorem sleepingRaisesNotReady : Obligations.SleepingRaisesNotReady := by
  intro s i hidle hi
  have hneeds : needsAwake i = true := by obtain rfl | rfl | rfl | rfl := hi <;> rfl
  refine ⟨fun hsleeping => ?_, fun hawake => ?_⟩
  · obtain rfl | rfl | rfl | rfl := hi <;> exact whenAwake_sleeping_idle _ hidle hsleeping
  · exact errAfter_show (raised := (· = .busFailure)) hneeds (absurd · hawake) rfl

/-- Settles O34: both ENCODEs share the check of the grid, and no other check raises that error. -/
theorem wrongGridRaisesDimensionMismatch : Obligations.WrongGridRaisesDimensionMismatch := by
  constructor
  · intro s hidle hw hh hdirect htransposed
    obtain ⟨-, -, hnone⟩ := orientation_iff s.cfg s.imgW.toNat s.imgH.toNat
    have hmismatch := encodeGrid_of_mismatch hidle hw hh (hnone.mpr ⟨hdirect, htransposed⟩)
    exact ⟨(whenIdle_of_idle _ hidle).trans (hmismatch _ _ _), (whenIdle_of_idle _ hidle).trans (hmismatch _ _ _)⟩
  · intro s t i hi1 hi4 hexec herr
    obtain hkept | hother := errAfter_not_encode hi1 hi4 t hexec
    · exact hkept.symm.trans herr
    · exact absurd herr hother

/-- Settles O35: the operations come to the attachment check, the displays and clears after their other checks. -/
theorem unattachedRaisesBusFailure : Obligations.UnattachedRaisesBusFailure := by
  intro s i hidle hreleased hi
  have hraise (o : Outcome) := whenAttached_released_idle o hidle hreleased
  have hchecks {o : Outcome} : whenIdle s o = o := whenIdle_of_idle o hidle
  obtain rfl | ⟨fast, rfl⟩ | rfl | rfl | ⟨hawake, rfl | rfl⟩ | ⟨hawake, hvalid, hmode, rfl⟩ |
    ⟨hawake, hvalid, hmode, rfl⟩ := hi
  iterate 4 exact hchecks.trans (hraise _)
  iterate 2 exact hchecks.trans ((whenAwake_of_awake _ hawake).trans (hraise _))
  iterate 2
    exact hchecks.trans ((whenAwake_of_awake _ hawake).trans ((whenTagged_of_tagged _ hvalid hmode).trans (hraise _)))

end
end

section
/-! PROOFS. WAKE (O17): an operation the host presents runs under quiet turns to its exact end, and INIT starts where
ATTACH has ended (30_encoding R76; 60_exceptions R187). -/

namespace Sys2Proof.Machine

open Sys2Proof.Safety

/-! ### The end of a presented operation under quiet turns -/

/-- An operation that starts when presented performs its elements under some number of quiet turns, and ends
(30_encoding R75; 41_protocol_driver R130 step 6). -/
theorem StartsOn.runsTo_performedAll {s : State} {i : Instr} {body : List Micro} {a : Input} (h : StartsOn i body s)
    (hidle : s.seq = .idle) (ha : present s.cfg i = some a) :
    ∃ n, runsTo s (a :: quietTurns s.cfg n) { performedAll body s with err := .none, done := true } := by
  obtain ⟨n, hrun⟩ := endsQuietly_performedAll (s := s.started i body) rfl
  have hend : complete (performedAll body (s.started i body)) =
      { performedAll body s with err := .none, done := true } :=
    (complete_performedAll_position body _ _ s).trans (complete_of_idle ((performedAll_seq body s).trans hidle))
  rw [hend] at hrun
  exact ⟨n, runsTo_cons (fun ins => (react_present (s := s.taken ins s.freeCount) hidle ha).trans (h ins)) hrun⟩

theorem attach_startsOn {s : State} (hidle : s.seq = .idle) (hreleased : s.attached = false) :
    StartsOn .attach attachBody s := fun ins =>
  exec_attach_of_released (s := s.taken ins s.freeCount) hidle hreleased

theorem init_startsOn {s : State} (fast : Bool) (hidle : s.seq = .idle) (hattached : s.attached = true) :
    StartsOn (.init fast) (.write (.preferFast fast) :: initBody fast) s := fun ins =>
  exec_init_of_attached (s := s.taken ins s.freeCount) fast hidle hattached

end Sys2Proof.Machine

section

open Sys2Proof Sys2Proof.Machine Sys2Proof.Safety

/-- Settles O17: ATTACH ends idle and attached, so INIT starts there. -/
theorem attachThenInitWakes : Obligations.AttachThenInitWakes := by
  intro s fast hidle _ hreleased
  obtain ⟨m, hattach⟩ := (attach_startsOn hidle hreleased).runsTo_performedAll hidle rfl
  rw [performedAll_attachBody] at hattach
  obtain ⟨n, hinit⟩ := (init_startsOn
    (s := { applyWrite .attached (s.emitted [.busOpen, .pinCfg]) with err := .none, done := true }) fast hidle
    rfl).runsTo_performedAll hidle rfl
  rw [performedAll_cons, performedAll_initBody] at hinit
  exact ⟨m, n, runsTo_append hattach hinit⟩

end
end

section
/-! PROOFS. Runs of an operation that may fail (O36): wherever the sequencer stands, the elements of the list before it
are performed, so a failing event stops the operation at one element of the list it started on. -/

namespace Sys2Proof.Machine

open Sys2Proof.Safety

/-! ### One failing turn -/

theorem canFail_of_not_delay {e : WireEvent} (h : ∀ ms, e ≠ .delay ms) : canFail e = true := by
  cases e with
  | delay ms => exact absurd rfl (h ms)
  | _ => rfl

theorem advance_poll_fails {s : State} {op : Instr} {idx : Nat} {touched : Bool} {rest : List Micro}
    (l : Level) (h : s.seq = .busy op idx touched (.poll :: rest)) :
    advance l true s = .next (failEvent touched s) := by
  simp [advance, h]

/-- A delay is performed whatever the capability chooses (40_wire_framing R95). -/
theorem advance_delay {s : State} {op : Instr} {idx : Nat} {touched : Bool} {ms : Nat} {rest : List Micro}
    (l : Level) (f : Bool) (h : s.seq = .busy op idx touched (.emit (.delay ms) :: rest)) :
    advance l f s = .next (record (.delay ms) { s with seq := .busy op (idx + 1) true rest }) := by
  simp [advance, h, canFail]

/-- `t` comes after `s` by a failing event: the element that stands next is no state write, and is not performed. -/
def FailsIn (s t : State) : Prop :=
  ∃ op idx touched m rest, s.seq = .busy op idx touched (m :: rest) ∧ m.write? = none ∧ t = failEvent touched s

/-- A turn is one with no failing event, or one in which the next event fails. -/
theorem Turn.unfailing_or_fails {l : Level} {f : Bool} {s t : State} (h : Turn l f s t) :
    Turn l false s t ∨ FailsIn s t := by
  cases h with
  | idle h => exact .inl (.idle h)
  | ended h => exact .inl (.ended h)
  | emitted h => exact .inl (.emitted h nofun)
  | emitFailed h => exact .inr ⟨_, _, _, _, _, h, rfl, rfl⟩
  | sampled h => exact .inl (.sampled h rfl)
  | sampleFailed h => exact .inr ⟨_, _, _, _, _, h, rfl, rfl⟩
  | wrote h => exact .inl (.wrote h)
  | called h hi => exact .inl (.called h hi)
  | skipped h hi => exact .inl (.skipped h hi)

/-- What every turn keeps, a run of turns keeps, and the inputs are used up. -/
theorem run_turns_keeps {P : State → Prop} (hturn : ∀ {l f s t}, Turn l f s t → P s → P t)
    (henv : ∀ {s} ins d, P s → P { s with inputs := ins, done := d }) (choices : List (Level × Bool)) {s u : State}
    (hrun : Host.Core.run Sys2Proof.core choices.length { s with inputs := turnsOf choices } = .next u)
    (hs : P s) : P u ∧ u.inputs = [] := by
  induction choices generalizing s with
  | nil =>
    cases hrun
    exact ⟨henv _ _ hs, rfl⟩
  | cons x choices ih =>
    rw [List.length_cons, run_succ, step_tick (l := x.1) (f := x.2) (rest := turnsOf choices) rfl] at hrun
    cases hadvance : advance x.1 x.2 { s with inputs := turnsOf choices, done := false } with
    | next t =>
      have ht := advance_turn hadvance
      have hinputs : { t with inputs := turnsOf choices } = t := by
        rw [← show t.inputs = turnsOf choices from ht.inputs_eq]
      simp only [hadvance] at hrun
      exact ih (hinputs.symm ▸ hrun) (hturn ht (henv _ _ hs))
    | fault r => simp [hadvance] at hrun
    | refused r => simp [hadvance] at hrun

/-! ### Lists of events with the same bytes -/

/-- Two traces with the same bytes, whatever events follow (00_scope R9). -/
def SameBytes (a b : List WireEvent) : Prop := ∀ es, byteTrace (a ++ es) = byteTrace (b ++ es)

theorem SameBytes.refl (a : List WireEvent) : SameBytes a a := fun _ => rfl

theorem SameBytes.trans {a b c : List WireEvent} (hab : SameBytes a b) (hbc : SameBytes b c) : SameBytes a c :=
  fun es => (hab es).trans (hbc es)

theorem SameBytes.append {a b : List WireEvent} (h : SameBytes a b) (c : List WireEvent) :
    SameBytes (a ++ c) (b ++ c) := fun es => by
  rw [List.append_assoc, List.append_assoc]
  exact h (c ++ es)

theorem SameBytes.byteTrace_eq {a b : List WireEvent} (h : SameBytes a b) : byteTrace a = byteTrace b := by
  simpa using h []

/-- A longer trace has more bytes. -/
theorem byteTrace_prefix {a b : List WireEvent} (h : a <+: b) : byteTrace a <+: byteTrace b := by
  obtain ⟨es, rfl⟩ := h
  rw [byteTrace, byteTrace, byteTraceFrom_append]
  exact List.prefix_append _ _

/-- Busy samples and delays are no bytes. -/
theorem sameBytes_sample (a : List WireEvent) (l : Level) : SameBytes (a ++ [.busy l]) a := fun es => by
  simp [byteTrace, byteTraceFrom_append, byteTraceFrom]

theorem sameBytes_sample_delay (a : List WireEvent) (l : Level) (ms : Nat) :
    SameBytes (a ++ [.busy l, .delay ms]) a := fun es => by
  simp [byteTrace, byteTraceFrom_append, byteTraceFrom]

/-! ### A turn that performs no state write -/

/-- The events of a list, its busy samples and the delays between them apart. -/
def eventsOf (c : Config) (ms : List Micro) : List WireEvent := ms.flatMap (microEvents c)

/-- The state writes of a list. -/
def writesOf (ms : List Micro) : List StateWrite := ms.filterMap Micro.write?

@[simp] theorem eventsOf_nil (c : Config) : eventsOf c [] = [] := rfl

@[simp] theorem eventsOf_cons (c : Config) (m : Micro) (ms : List Micro) :
    eventsOf c (m :: ms) = microEvents c m ++ eventsOf c ms := List.flatMap_cons

@[simp] theorem eventsOf_append (c : Config) (a b : List Micro) :
    eventsOf c (a ++ b) = eventsOf c a ++ eventsOf c b := List.flatMap_append

@[simp] theorem eventsOf_emits (c : Config) (es : List WireEvent) : eventsOf c (es.map Micro.emit) = es := by
  induction es with
  | nil => rfl
  | cons e es ih => simp [ih, microEvents]

@[simp] theorem writesOf_append (a b : List Micro) : writesOf (a ++ b) = writesOf a ++ writesOf b :=
  List.filterMap_append

theorem writesOf_emits (es : List WireEvent) : writesOf (es.map Micro.emit) = [] := filterMap_write?_emits es

theorem writesOf_singleton {m : Micro} (h : m.write? = none) : writesOf [m] = [] := by
  simp [writesOf, h]

theorem writesOf_tail {m : Micro} {ms : List Micro} (h : writesOf (m :: ms) = []) : writesOf ms = [] :=
  (List.append_eq_nil_iff.mp ((writesOf_append [m] ms).symm.trans h)).2

/-- Whether the sequencer has performed an event of the operation (10_state R28). -/
def Seq.touched : Seq → Bool
  | .idle => false
  | .busy _ _ touched _ => touched

/-- Whether a write that closes the reset pulse comes before the first event or sample. -/
def closesUntouched : List Micro → Bool
  | .write w :: rest => w = .panelKnown || closesUntouched rest
  | .call _ :: rest => closesUntouched rest
  | _ => false

/-- `t` comes after `s` by a turn on an element `m` that is no state write: `es` is what it put on the wire, `more` what
it has left to do. -/
structure Works (s : State) (m : Micro) (rest : List Micro) (es : List WireEvent) (more : List Micro) (t : State) :
    Prop where
  busy : t.seq ≠ .idle
  pending : t.seq.pending = more ++ rest
  touched : t.seq.touched = (s.seq.touched || !es.isEmpty)
  trace : t.trace = s.trace ++ es
  noWrites : writesOf more = []
  registers : t.registers = s.registers
  bytes : SameBytes (s.trace ++ es ++ eventsOf s.cfg more) (s.trace ++ microEvents s.cfg m)
  untouched : es = [] → closesUntouched (m :: rest) = false → closesUntouched (more ++ rest) = false

theorem closesUntouched_emits {es : List WireEvent} (h : es ≠ []) (rest : List Micro) :
    closesUntouched (es.map .emit ++ rest) = false := by
  obtain ⟨e, es, rfl⟩ := List.exists_cons_of_ne_nil h
  rfl

/-- A wait puts its sample on the wire; after a busy one it has a delay and a sample left (40_wire_framing R96). -/
theorem works_sample (s : State) (op : Instr) (idx : Nat) (rest : List Micro) (l : Level) :
    Works s .poll rest [.busy l] (pollAgain s.cfg l [])
      (record (.busy l) { s with seq := .busy op (idx + 1) true (pollAgain s.cfg l rest) }) where
  busy := nofun
  pending := by
    unfold pollAgain
    split <;> rfl
  touched := (Bool.or_true _).symm
  trace := rfl
  noWrites := filterMap_write?_pollAgain s.cfg l []
  registers := rfl
  bytes := by
    unfold pollAgain
    split
    · simpa [microEvents] using sameBytes_sample_delay s.trace l _
    · simpa [microEvents] using sameBytes_sample s.trace l
  untouched := nofun

/-- What a turn does to the element it works at. -/
theorem Turn.works {l : Level} {s t : State} (h : Turn l false s t) {op : Instr} {idx : Nat} {touched : Bool}
    {m : Micro} {rest : List Micro} (hs : s.seq = .busy op idx touched (m :: rest)) (hm : m.write? = none) :
    ∃ es more, Works s m rest es more t := by
  cases h with
  | idle h | ended h => cases hs.symm.trans h
  | @emitted _ _ _ e _ h =>
    cases hs.symm.trans h
    exact ⟨[e], [], nofun, rfl, (Bool.or_true _).symm, rfl, rfl, rfl, by simpa [microEvents] using .refl _, nofun⟩
  | emitFailed _ hf | sampleFailed _ hf => exact absurd hf nofun
  | sampled h =>
    cases hs.symm.trans h
    exact ⟨_, _, works_sample s op idx rest l⟩
  | wrote h =>
    cases hs.symm.trans h
    exact absurd hm nofun
  | @called _ _ _ i _ h hi =>
    cases hs.symm.trans h
    exact ⟨[], (panelEvents s.cfg i).map .emit, nofun, rfl, by simp [h, Seq.touched], by simp, writesOf_emits _, rfl,
      by simpa [microEvents] using .refl _, fun _ _ => closesUntouched_emits (panelEvents_ne_nil _ hi) _⟩
  | @skipped _ _ _ i _ h hi =>
    cases hs.symm.trans h
    exact ⟨[], [], nofun, rfl, by simp [h, Seq.touched], by simp, rfl, rfl,
      by simpa [microEvents, panelEvents_of_not_panel hi] using .refl _, fun _ => id⟩

/-! ### Where the sequencer stands in the list of an operation -/

/-- The operation that started in `s` on the list `body` stands in `x`: the elements `done` are performed, but that the
last of them has `queued` left to do, and `left` comes after. -/
structure Position (s : State) (body : List Micro) (x : State) (done queued left : List Micro) : Prop where
  body_eq : body = done ++ left
  pending : x.seq.pending = queued ++ left
  noWrites : writesOf queued = []
  inProgress : queued ≠ [] → ∃ before m, done = before ++ [m] ∧ m.write? = none
  registers : x.registers = (applyWrites (writesOf done) s).registers
  bytes : SameBytes (x.trace ++ eventsOf s.cfg queued) (s.trace ++ eventsOf s.cfg done)
  bytesBefore : byteTrace (s.trace ++ eventsOf s.cfg done.dropLast) <+: byteTrace x.trace

theorem position_start (s : State) (op : Instr) (body : List Micro) :
    Position s body { s with seq := .busy op 0 false body } [] [] body where
  body_eq := rfl
  pending := rfl
  noWrites := rfl
  inProgress h := absurd rfl h
  registers := rfl
  bytes := .refl _
  bytesBefore := by simp

theorem Position.cfg_eq {s x : State} {body done queued left : List Micro} (h : Position s body x done queued left) :
    x.cfg = s.cfg :=
  have hcfg : x.registers.cfg = (applyWrites (writesOf done) s).registers.cfg := congrArg State.cfg h.registers
  hcfg.trans (applyWrites_cfg _ s)

/-- Between two elements the bytes are those of the elements performed. -/
theorem Position.byteTrace_eq {s x : State} {body done left : List Micro} (h : Position s body x done [] left) :
    byteTrace x.trace = byteTrace (s.trace ++ eventsOf s.cfg done) := by
  simpa using h.bytes.byteTrace_eq

/-- An element that is no state write may be counted as in progress before its first turn. -/
theorem Position.take {s x : State} {body done left : List Micro} {m : Micro}
    (h : Position s body x done [] (m :: left)) (hm : m.write? = none) :
    Position s body x (done ++ [m]) [m] left where
  body_eq := by simp [h.body_eq]
  pending := h.pending
  noWrites := writesOf_singleton hm
  inProgress _ := ⟨done, m, rfl, hm⟩
  registers := by rw [writesOf_append, writesOf_singleton hm, List.append_nil, h.registers]
  bytes := by simpa using h.bytes.append (microEvents s.cfg m)
  bytesBefore := by rw [List.dropLast_concat, h.byteTrace_eq]

theorem Position.works {s x y : State} {body done queued left more : List Micro} {m : Micro} {es : List WireEvent}
    (h : Position s body x done (m :: queued) left) (hw : Works x m (queued ++ left) es more y) :
    Position s body y done (more ++ queued) left where
  body_eq := h.body_eq
  pending := by rw [hw.pending, List.append_assoc]
  noWrites := by rw [writesOf_append, hw.noWrites, writesOf_tail h.noWrites, List.append_nil]
  inProgress _ := h.inProgress (List.cons_ne_nil _ _)
  registers := hw.registers.trans h.registers
  bytes := by
    have hstep := hw.bytes.append (eventsOf s.cfg queued)
    rw [h.cfg_eq, ← hw.trace] at hstep
    have hbytes := h.bytes
    rw [eventsOf_cons, ← List.append_assoc] at hbytes
    rw [eventsOf_append, ← List.append_assoc]
    exact hstep.trans hbytes
  bytesBefore := h.bytesBefore.trans (byteTrace_prefix ⟨es, hw.trace.symm⟩)

theorem applyWrites_append_singleton (ws : List StateWrite) (w : StateWrite) (s : State) :
    applyWrites (ws ++ [w]) s = applyWrite w (applyWrites ws s) := by
  simp [applyWrites]

theorem Position.wrote {s x : State} {body done left : List Micro} {w : StateWrite}
    (h : Position s body x done [] (.write w :: left)) (op : Instr) (idx : Nat) (touched : Bool) :
    Position s body (applyWrite w { x with seq := .busy op idx touched left }) (done ++ [.write w]) [] left where
  body_eq := by simp [h.body_eq]
  pending := by rw [applyWrite_seq]; rfl
  noWrites := rfl
  inProgress h := absurd rfl h
  registers := by
    rw [writesOf_append, show writesOf [.write w] = [w] from rfl, applyWrites_append_singleton, registers_applyWrite,
      registers_applyWrite w (applyWrites _ s), ← h.registers]
    rfl
  bytes := by simpa [microEvents] using h.bytes
  bytesBefore := by rw [List.dropLast_concat, applyWrite_trace, ← h.byteTrace_eq]

/-! ### The wire and the ghost flag -/

/-- What the wire and the ghost flag have come to in an operation that started in `s` (10_state R28). -/
structure Touches (s x : State) : Prop where
  trace : s.trace <+: x.trace
  touched : x.seq.touched = decide (x.trace ≠ s.trace)
  untouched : x.seq.touched = false → x.panelUndef = s.panelUndef ∧ closesUntouched x.seq.pending = false

theorem touches_start (s : State) (op : Instr) {body : List Micro} (h : closesUntouched body = false) :
    Touches s { s with seq := .busy op 0 false body } where
  trace := List.prefix_rfl
  touched := by simp [Seq.touched]
  untouched _ := ⟨rfl, h⟩

theorem Touches.works {s x y : State} {m : Micro} {rest more : List Micro} {es : List WireEvent} (h : Touches s x)
    (hx : x.seq.pending = m :: rest) (hw : Works x m rest es more y) : Touches s y where
  trace := h.trace.trans ⟨es, hw.trace.symm⟩
  touched := by
    obtain ⟨ts, hts⟩ := h.trace
    have htouched := h.touched
    rw [← hts] at htouched
    rw [hw.touched, hw.trace, htouched, ← hts]
    cases ts <;> cases es <;> simp
  untouched hy := by
    rw [hw.touched, Bool.or_eq_false_iff] at hy
    obtain ⟨hkept, hcloses⟩ := h.untouched hy.1
    have hes : es = [] := by simpa using hy.2
    rw [hx] at hcloses
    have hghost : y.registers.panelUndef = x.registers.panelUndef := congrArg State.panelUndef hw.registers
    exact ⟨hghost.trans hkept, hw.pending ▸ hw.untouched hes hcloses⟩

theorem Touches.wrote {s x : State} {op : Instr} {idx : Nat} {touched : Bool} {w : StateWrite} {rest : List Micro}
    (h : Touches s x) (hx : x.seq = .busy op idx touched (.write w :: rest)) (idx' : Nat) :
    Touches s (applyWrite w { x with seq := .busy op idx' touched rest }) where
  trace := by simpa using h.trace
  touched := by simpa [hx, Seq.touched] using h.touched
  untouched hy := by
    have huntouched : x.seq.touched = false := by simpa [hx, Seq.touched] using hy
    obtain ⟨hkept, hcloses⟩ := h.untouched huntouched
    rw [hx] at hcloses
    obtain ⟨hw, hrest⟩ := Bool.or_eq_false_iff.mp hcloses
    refine ⟨?_, by simpa [Seq.pending] using hrest⟩
    cases w with
    | panelKnown => exact absurd hw nofun
    | _ => exact hkept

/-- The flag is set if there was an event, whatever a reset pulse made of it before (10_state R28). -/
theorem Touches.panelUndef_eq {s x : State} (h : Touches s x) :
    (x.panelUndef || x.seq.touched) = (s.panelUndef || decide (x.trace ≠ s.trace)) := by
  rw [← h.touched]
  cases htouched : x.seq.touched with
  | true => rw [Bool.or_true, Bool.or_true]
  | false => rw [(h.untouched htouched).1]

/-! ### The element an operation fails at -/

/-- The operation that started in `s` failed in `u` at the element `m` of its list, after those of `before`: what those
put on the wire and wrote stands, and of `m` nothing but a part of its events (60_exceptions R174, R175). -/
structure FailedAt (s : State) (before : List Micro) (m : Micro) (u : State) : Prop where
  noWrite : m.write? = none
  trace : s.trace <+: u.trace
  registers : u.registers = { (applyWrites (writesOf before) s).registers with
    panelUndef := s.panelUndef || decide (u.trace ≠ s.trace) }
  bytesBefore : byteTrace (s.trace ++ eventsOf s.cfg before) <+: byteTrace u.trace
  bytesWithin : byteTrace u.trace <+: byteTrace (s.trace ++ eventsOf s.cfg (before ++ [m]))

/-- A failing event ends the operation and leaves everything but the error and the ghost flag. -/
theorem FailsIn.registers_eq {s x y : State} (ht : Touches s x) (hy : FailsIn x y) :
    y.registers = { x.registers with panelUndef := s.panelUndef || decide (y.trace ≠ s.trace) } := by
  obtain ⟨op, idx, touched, m, rest, hx, -, rfl⟩ := hy
  rw [failEvent_trace, ← ht.panelUndef_eq, hx]
  rfl

theorem FailsIn.trace_eq {x y : State} (hy : FailsIn x y) : y.trace = x.trace := by
  obtain ⟨_, _, touched, _, _, -, -, rfl⟩ := hy
  exact failEvent_trace touched x

theorem Position.failedAt_inProgress {s x y : State} {body before queued left : List Micro} {m : Micro}
    (h : Position s body x (before ++ [m]) queued left) (hm : m.write? = none) (ht : Touches s x) (hy : FailsIn x y) :
    FailedAt s before m y where
  noWrite := hm
  trace := hy.trace_eq ▸ ht.trace
  registers := by
    rw [hy.registers_eq ht, h.registers, writesOf_append, writesOf_singleton hm, List.append_nil]
  bytesBefore := by
    rw [hy.trace_eq]
    simpa using h.bytesBefore
  bytesWithin := by
    rw [hy.trace_eq, ← h.bytes.byteTrace_eq]
    exact byteTrace_prefix (List.prefix_append _ _)

/-- Where an event or a sample of an operation fails, the operation fails at one element of its list. -/
theorem Position.failedAt {s x y : State} {body done queued left : List Micro} (h : Position s body x done queued left)
    (ht : Touches s x) (hy : FailsIn x y) : ∃ before m after, body = before ++ m :: after ∧ FailedAt s before m y := by
  cases queued with
  | nil =>
    have ⟨_, _, _, m, rest, hx, hm, _⟩ := hy
    have hpending := h.pending
    rw [hx] at hpending
    obtain rfl : left = m :: rest := hpending.symm
    exact ⟨done, m, rest, h.body_eq, (h.take hm).failedAt_inProgress hm ht hy⟩
  | cons q queued =>
    obtain ⟨before, m, rfl, hm⟩ := h.inProgress (List.cons_ne_nil _ _)
    exact ⟨before, m, left, by simpa using h.body_eq, h.failedAt_inProgress hm ht hy⟩

/-! ### A run of an operation that may fail -/

/-- The operation that started in `s` on the list `body` runs on in `x`. -/
def Running (s : State) (body : List Micro) (x : State) : Prop :=
  x.seq ≠ .idle ∧ Touches s x ∧ ∃ done queued left, Position s body x done queued left

/-- The operation has ended, without error or at a failing event. -/
def Ended (s : State) (body : List Micro) (x : State) : Prop :=
  x.seq = .idle ∧ (x.err = .none ∨ ∃ before m after, body = before ++ m :: after ∧ FailedAt s before m x)

/-- A turn that performs no state write goes on with the operation. -/
theorem Position.running_of_works {s x y : State} {body done queued left rest : List Micro} {l : Level} {op : Instr}
    {idx : Nat} {touched : Bool} {m : Micro} (h : Position s body x done queued left)
    (hx : x.seq = .busy op idx touched (m :: rest)) (hm : m.write? = none) (ht : Touches s x)
    (hy : Turn l false x y) : Running s body y := by
  obtain ⟨es, more, hw⟩ := hy.works hx hm
  have hnext : x.seq.pending = m :: rest := congrArg Seq.pending hx
  have hpending := hnext.symm.trans h.pending
  refine ⟨hw.busy, ht.works hnext hw, ?_⟩
  cases queued with
  | nil =>
    obtain rfl : left = m :: rest := hpending.symm
    exact ⟨_, _, _, (h.take hm).works (queued := []) hw⟩
  | cons q queued =>
    obtain ⟨rfl, rfl⟩ := List.cons.inj hpending
    exact ⟨_, _, _, h.works hw⟩

/-- Whatever stands next, a turn goes on with the operation or ends it. -/
theorem Running.turn {s x y : State} {body : List Micro} {l : Level} {f : Bool} (h : Running s body x)
    (hy : Turn l f x y) : Running s body y ∨ Ended s body y := by
  obtain ⟨hbusy, ht, done, queued, left, hp⟩ := h
  obtain hy | hfails := hy.unfailing_or_fails
  case inr =>
    have hidle : y.seq = .idle := by
      obtain ⟨_, _, _, _, _, -, -, rfl⟩ := hfails
      rfl
    exact .inr ⟨hidle, .inr (hp.failedAt ht hfails)⟩
  have hturn := hy
  cases hy with
  | idle hx => exact absurd hx hbusy
  | ended => exact .inr ⟨rfl, .inl rfl⟩
  | emitFailed _ hf | sampleFailed _ hf => exact absurd hf nofun
  | emitted hx | sampled hx | called hx | skipped hx =>
    exact .inl (hp.running_of_works hx rfl ht hturn)
  | @wrote _ _ _ w rest hx =>
    have hpending := hp.pending
    rw [hx] at hpending
    cases queued with
    | nil =>
      obtain rfl : left = .write w :: rest := hpending.symm
      exact .inl ⟨by simp, ht.wrote hx _, _, _, _, hp.wrote _ _ _⟩
    | cons q queued =>
      obtain ⟨rfl, -⟩ := List.cons.inj hpending
      exact absurd hp.noWrites nofun

theorem Ended.turn {s x y : State} {body : List Micro} {l : Level} {f : Bool} (h : Ended s body x)
    (hy : Turn l f x y) : y = x := by
  cases hy with
  | idle => rfl
  | ended hx | emitted hx | emitFailed hx | sampled hx | sampleFailed hx | wrote hx | called hx | skipped hx =>
    exact absurd (h.1.symm.trans hx) nofun

/-- Neither speaks of the inputs or of the `done` pulse. -/
theorem Running.environment {s x : State} {body : List Micro} (h : Running s body x) (ins : List Input) (d : Bool) :
    Running s body { x with inputs := ins, done := d } := by
  obtain ⟨hbusy, ht, done, queued, left, hp⟩ := h
  exact ⟨hbusy, { ht with }, done, queued, left, { hp with }⟩

theorem Ended.environment {s x : State} {body : List Micro} (h : Ended s body x) (ins : List Input) (d : Bool) :
    Ended s body { x with inputs := ins, done := d } := by
  obtain ⟨hidle, hnone | ⟨before, m, after, hbody, hfailed⟩⟩ := h
  · exact ⟨hidle, .inl hnone⟩
  · exact ⟨hidle, .inr ⟨before, m, after, hbody, { hfailed with }⟩⟩

/-- Two states with the same registers that agree on what is no register are the same. -/
theorem State.eq_of_registers {s t : State} (h : s.registers = t.registers) (hseq : s.seq = t.seq)
    (htrace : s.trace = t.trace) (hrst : s.rstO = t.rstO) (hdc : s.dcO = t.dcO) (hcs : s.csO = t.csO)
    (herr : s.err = t.err) (hdone : s.done = t.done) (hins : s.inputs = t.inputs) : s = t := by
  cases s
  cases t
  simp_all [State.registers]

/-- What an operation that started in `s` and failed in `u` leaves, where it had made the writes `ws`. -/
def afterFailureOf (s u : State) (ws : List StateWrite) : State :=
  { afterFailure (applyWrites ws s) u with panelUndef := s.panelUndef || decide (u.trace ≠ s.trace) }

theorem applyWrites_seq (ws : List StateWrite) (s : State) : (applyWrites ws s).seq = s.seq := by
  induction ws generalizing s with
  | nil => rfl
  | cons w ws ih => exact (ih (applyWrite w s)).trans (applyWrite_seq w s)

/-- The operation that started in `s` on the list `body` failed in `u`. -/
def Failed (s : State) (body : List Micro) (u : State) : Prop :=
  ∃ before m after, body = before ++ m :: after ∧ FailedAt s before m u ∧ u = afterFailureOf s u (writesOf before)

/-- A run of turns of an operation that ends with BusFailure fails at an element of its list. -/
theorem run_failed {s u : State} {op : Instr} {body : List Micro} (hs : s.seq = .idle)
    (hbody : closesUntouched body = false) (choices : List (Level × Bool))
    (hrun : Host.Core.run Sys2Proof.core choices.length
      { { s with seq := .busy op 0 false body } with inputs := turnsOf choices } = .next u)
    (hidle : u.seq = .idle) (herr : u.err = .busFailure) : Failed s body u := by
  have hstart : Running s body { s with seq := .busy op 0 false body } :=
    ⟨nofun, touches_start s op hbody, [], [], body, position_start s op body⟩
  obtain ⟨hrunning | ⟨-, hnone | ⟨before, m, after, hsplit, hfailed⟩⟩, hinputs⟩ :=
    run_turns_keeps (P := fun x => Running s body x ∨ Ended s body x)
      (fun hturn h => h.elim (·.turn hturn) fun hended => .inr (hended.turn hturn ▸ hended))
      (fun ins d h => h.imp (·.environment ins d) (·.environment ins d)) choices hrun (.inl hstart)
  · exact absurd hidle hrunning.1
  · exact absurd (herr.symm.trans hnone) nofun
  · have hseq : u.seq = (applyWrites (writesOf before) s).seq := by rw [applyWrites_seq, hidle, hs]
    exact ⟨before, m, after, hsplit, hfailed,
      State.eq_of_registers hfailed.registers hseq rfl rfl rfl rfl herr rfl hinputs⟩

end Sys2Proof.Machine
end

section
/-! PROOFS. What an operation that fails leaves (O36): the element it failed at tells which of its writes were made and
bounds the bytes it put on the wire. -/

namespace Sys2Proof.Machine

open Sys2Proof.Safety

/-! ### Where in its list an operation failed -/

/-- An element of `pre ++ post` stands in one of the two. -/
theorem split_of_append {pre post before after : List Micro} {m : Micro} (h : pre ++ post = before ++ m :: after) :
    (∃ after', pre = before ++ m :: after') ∨ ∃ before', before = pre ++ before' ∧ post = before' ++ m :: after := by
  obtain ⟨before', hbefore, hpost⟩ | ⟨rest, hpre, hrest⟩ := List.append_eq_append_iff.mp h
  · exact .inr ⟨before', hbefore, hpost⟩
  · cases rest with
    | nil => exact .inr ⟨[], by simpa using hpre.symm, hrest.symm⟩
    | cons m' rest =>
      obtain ⟨rfl, -⟩ := List.cons.inj hrest
      exact .inl ⟨rest, hpre⟩

theorem not_mem_writes {m : Micro} (hm : m.write? = none) (ws : List StateWrite) : m ∉ ws.map Micro.write := by
  intro hmem
  obtain ⟨w, -, rfl⟩ := List.mem_map.mp hmem
  exact absurd hm nofun

/-- No operation fails at the state writes that close its list. -/
theorem split_before_writes {pre before after : List Micro} {m : Micro} {ws : List StateWrite}
    (h : pre ++ ws.map .write = before ++ m :: after) (hm : m.write? = none) :
    ∃ after', pre = before ++ m :: after' := by
  obtain hpre | ⟨before', -, hpost⟩ := split_of_append h
  · exact hpre
  · exact absurd (by simp [hpost]) (not_mem_writes hm ws)

/-- No operation fails at the state writes that open a part of its list. -/
theorem split_after_writes {post before after : List Micro} {m : Micro} {ws : List StateWrite}
    (h : ws.map .write ++ post = before ++ m :: after) (hm : m.write? = none) :
    ∃ before', before = ws.map .write ++ before' ∧ post = before' ++ m :: after := by
  obtain ⟨after', hpre⟩ | hpost := split_of_append h
  · exact absurd (by simp [hpre]) (not_mem_writes hm ws)
  · exact hpost

@[simp] theorem writesOf_writes (ws : List StateWrite) : writesOf (ws.map .write) = ws := by
  simp [writesOf, List.filterMap_map, Function.comp_def, Micro.write?]

theorem writesOf_before {pre before after : List Micro} {m : Micro} (h : pre = before ++ m :: after) :
    writesOf before <+: writesOf pre := by
  rw [h, writesOf_append]
  exact List.prefix_append _ _

/-- An operation that makes its writes last fails with none of them made. -/
theorem Failed.eq_afterFailure {s u : State} {pre : List Micro} {ws : List StateWrite}
    (h : Failed s (pre ++ ws.map .write) u) (hpre : writesOf pre = []) : u = afterFailure s u := by
  obtain ⟨before, m, after, hbody, hfailed, hu⟩ := h
  obtain ⟨after', hsplit⟩ := split_before_writes hbody hfailed.noWrite
  have hnone : writesOf before = [] := List.prefix_nil.mp (hpre ▸ writesOf_before hsplit)
  rw [hnone] at hu
  exact hu

/-- The ghost flag at a failure does not depend on the write that closes the reset pulse. -/
theorem afterFailureOf_append_panelKnown (s u : State) (ws : List StateWrite) {more : List StateWrite}
    (h : more <+: [.panelKnown]) : afterFailureOf s u (ws ++ more) = afterFailureOf s u ws := by
  obtain rfl | ⟨more, rfl, hmore⟩ := List.prefix_cons_iff.mp h
  · rw [List.append_nil]
  · rw [List.prefix_nil.mp hmore, afterFailureOf, applyWrites_append_singleton]
    rfl

/-- Where `INIT_BODY` fails, its write of Ready has not been made. -/
theorem writesOf_before_initBody {f : Bool} {before after : List Micro} {m : Micro}
    (h : initBody f = before ++ m :: after) (hm : m.write? = none) : writesOf before <+: [.panelKnown] := by
  have hlast : initBody f = (initBody f).dropLast ++ [StateWrite.ready].map .write := rfl
  obtain ⟨after', hsplit⟩ := split_before_writes (hlast.symm.trans h) hm
  exact writesOf_before hsplit

theorem byteTrace_eventsOf {ms : List Micro} (h : ∀ m ∈ ms, byteFree m = true) (c : Config) (tr : List WireEvent) :
    byteTrace (tr ++ eventsOf c ms) = byteTrace tr ++ ms.flatMap (microBytes c) := by
  rw [byteTrace, byteTraceFrom_append, eventsOf, byteTraceFrom_flatMap_microEvents h]
  rfl

theorem byteTrace_eventsOf_prefix {c : Config} (tr : List WireEvent) {a b : List Micro} (h : a <+: b) :
    byteTrace (tr ++ eventsOf c a) <+: byteTrace (tr ++ eventsOf c b) := by
  obtain ⟨ms, rfl⟩ := h
  rw [eventsOf_append, ← List.append_assoc]
  exact byteTrace_prefix (List.prefix_append _ _)

/-- Where an operation fails within `pre`, it has put no byte on the wire beyond those of `pre`. -/
theorem FailedAt.bytes_within {s u : State} {pre before after : List Micro} {m : Micro} (h : FailedAt s before m u)
    (hpre : pre = before ++ m :: after) (hfree : ∀ m ∈ pre, byteFree m = true) :
    byteTrace u.trace <+: byteTrace s.trace ++ pre.flatMap (microBytes s.cfg) := by
  rw [← byteTrace_eventsOf hfree]
  exact h.bytesWithin.trans (byteTrace_eventsOf_prefix _ ⟨after, by simp [hpre]⟩)

/-- Where an operation fails after `pre`, all the bytes of `pre` are on the wire. -/
theorem FailedAt.bytes_after {s u : State} {pre before : List Micro} {m : Micro} (h : FailedAt s (pre ++ before) m u)
    (hfree : ∀ m ∈ pre, byteFree m = true) :
    byteTrace s.trace ++ pre.flatMap (microBytes s.cfg) <+: byteTrace u.trace := by
  rw [← byteTrace_eventsOf hfree]
  exact (byteTrace_eventsOf_prefix _ (List.prefix_append _ _)).trans h.bytesBefore

/-! ### A failing INIT -/

/-- INIT fails with its argument latched and Ready not written (41_protocol_driver R132). -/
theorem init_failed {s u : State} {fast : Bool} (h : Failed s (.write (.preferFast fast) :: initBody fast) u) :
    u = { afterFailure s u with prefFast := fast } ∧
      byteTrace u.trace <+: byteTrace s.trace ++ initBytes s.cfg fast := by
  obtain ⟨before, m, after, hbody, hfailed, hu⟩ := h
  have hbytes := hfailed.bytes_within hbody (List.forall_mem_cons.mpr ⟨rfl, initBody_byteFree fast⟩)
  obtain ⟨before, rfl, hinit⟩ := split_after_writes (ws := [.preferFast fast]) hbody hfailed.noWrite
  have hwrites := writesOf_before_initBody hinit hfailed.noWrite
  rw [writesOf_append, writesOf_writes, afterFailureOf_append_panelKnown s u _ hwrites] at hu
  exact ⟨hu, initBody_bytes s.cfg fast ▸ hbytes⟩

/-! ### A failing display or clear -/

/-- A display or clear fails within its nested INIT, or after it: then the writes that follow the nested INIT have been
made, and none of those that close the operation. -/
theorem show_failed {s u : State} {shown : List Micro} {first last : List StateWrite} (hshown : writesOf shown = [])
    (h : Failed s (nestedInit s ++ (first.map .write ++ (shown ++ last.map .write))) u) :
    (s.dstate = .uninitialized ∧ u = afterFailure s u ∧
      byteTrace u.trace <+: byteTrace s.trace ++ initBytes s.cfg s.prefFast) ∨
    (u = afterFailureOf s u (writesOf (nestedInit s) ++ first) ∧
      byteTrace s.trace ++ nestedInitBytes s <+: byteTrace u.trace) := by
  obtain ⟨before, m, after, hbody, hfailed, hu⟩ := h
  obtain ⟨after', hnested⟩ | ⟨before', rfl, htail⟩ := split_of_append hbody
  · by_cases hd : s.dstate = .uninitialized
    · rw [nestedInit, if_pos hd] at hnested
      have hwrites := writesOf_before_initBody hnested hfailed.noWrite
      refine .inl ⟨hd, hu.trans (afterFailureOf_append_panelKnown s u [] hwrites), ?_⟩
      exact initBody_bytes s.cfg s.prefFast ▸ hfailed.bytes_within hnested (initBody_byteFree _)
    · rw [nestedInit, if_neg hd] at hnested
      exact absurd hnested (by simp)
  · obtain ⟨before, rfl, hrest⟩ := split_after_writes htail hfailed.noWrite
    obtain ⟨after', hsplit⟩ := split_before_writes hrest hfailed.noWrite
    have hnone : writesOf before = [] := List.prefix_nil.mp (hshown ▸ writesOf_before hsplit)
    rw [writesOf_append, writesOf_append, writesOf_writes, hnone, List.append_nil] at hu
    exact .inr ⟨hu, nestedInit_bytes s ▸ hfailed.bytes_after (nestedInit_byteFree s)⟩

/-- The DriverState once the nested INIT is over (10_state R12). -/
def dstateShown (s : State) : DriverState := if s.dstate = .uninitialized then .ready else s.dstate

theorem dstateShown_ne_uninitialized (s : State) : dstateShown s ≠ .uninitialized := by
  unfold dstateShown
  split
  · nofun
  · assumption

theorem afterFailureOf_nestedInit (s u : State) :
    afterFailureOf s u (writesOf (nestedInit s) ++ []) = { afterFailure s u with dstate := dstateShown s } := by
  rw [List.append_nil, writesOf, nestedInit_writes, dstateShown]
  split <;> rfl

theorem afterFailureOf_nestedInit_planes (s u : State) (bw red : List Byte) :
    afterFailureOf s u (writesOf (nestedInit s) ++ [.planes bw red]) =
      { afterFailure s u with
        dstate := dstateShown s
        plBw := Memory.ofBytes bw
        plRed := Memory.ofBytes red
        plLen := s.fbLen / 2 } := by
  rw [writesOf, nestedInit_writes, dstateShown]
  split <;> rfl

theorem nestedInitOutcome_within {s u : State} (hd : s.dstate = .uninitialized) (hu : u.dstate = s.dstate)
    (hbytes : byteTrace u.trace <+: byteTrace s.trace ++ initBytes s.cfg s.prefFast) : nestedInitOutcome s u :=
  ⟨fun _ => hu, fun _ => .inl ⟨hu.trans hd, hbytes⟩⟩

theorem nestedInitOutcome_after {s u : State} (hu : u.dstate = dstateShown s)
    (hbytes : byteTrace s.trace ++ nestedInitBytes s <+: byteTrace u.trace) : nestedInitOutcome s u := by
  refine ⟨fun hd => hu.trans (if_neg hd), fun hd => .inr ⟨hu.trans (if_pos hd), ?_⟩⟩
  rwa [nestedInitBytes, if_pos hd] at hbytes

/-- A show whose writes all come last leaves nothing but the nested INIT, where that had completed. -/
theorem show_failed_outcome {s u : State} {shown : List Micro} {last : List StateWrite} (hshown : writesOf shown = [])
    (h : Failed s (nestedInit s ++ (shown ++ last.map .write)) u) :
    u = { afterFailure s u with dstate := u.dstate } ∧ nestedInitOutcome s u := by
  obtain ⟨hd, hu, hbytes⟩ | ⟨hu, hbytes⟩ := show_failed (first := []) hshown h
  · have hdstate : u.dstate = s.dstate := (congrArg State.dstate hu).trans rfl
    exact ⟨hdstate ▸ hu, nestedInitOutcome_within hd hdstate hbytes⟩
  · rw [afterFailureOf_nestedInit] at hu
    have hdstate : u.dstate = dstateShown s := congrArg State.dstate hu
    exact ⟨hdstate ▸ hu, nestedInitOutcome_after hdstate hbytes⟩

/-- A show that writes the planes first has written them exactly where it had come past the nested INIT. -/
theorem show_failed_planes {s u : State} {shown : List Micro} {last : List StateWrite} {bw red : List Byte}
    (hshown : writesOf shown = [])
    (h : Failed s (nestedInit s ++ ([StateWrite.planes bw red].map .write ++ (shown ++ last.map .write))) u) :
    u = { afterFailure s u with dstate := u.dstate, plBw := u.plBw, plRed := u.plRed, plLen := u.plLen } ∧
    nestedInitOutcome s u ∧
    (u.dstate = .uninitialized → u.plBw = s.plBw ∧ u.plRed = s.plRed ∧ u.plLen = s.plLen) ∧
    (u.dstate = .ready → u.plBw = Memory.ofBytes bw ∧ u.plRed = Memory.ofBytes red ∧ u.plLen = s.fbLen / 2) := by
  obtain ⟨hd, hu, hbytes⟩ | ⟨hu, hbytes⟩ := show_failed hshown h
  · have hdstate : u.dstate = s.dstate := (congrArg State.dstate hu).trans rfl
    have hbw : u.plBw = s.plBw := (congrArg State.plBw hu).trans rfl
    have hred : u.plRed = s.plRed := (congrArg State.plRed hu).trans rfl
    have hlen : u.plLen = s.plLen := (congrArg State.plLen hu).trans rfl
    refine ⟨?_, nestedInitOutcome_within hd hdstate hbytes, fun _ => ⟨hbw, hred, hlen⟩, fun hready => ?_⟩
    · rw [hdstate, hbw, hred, hlen]
      exact hu
    · exact absurd (hready.symm.trans (hdstate.trans hd)) nofun
  · rw [afterFailureOf_nestedInit_planes] at hu
    have hdstate : u.dstate = dstateShown s := congrArg State.dstate hu
    have hbw : u.plBw = Memory.ofBytes bw := congrArg State.plBw hu
    have hred : u.plRed = Memory.ofBytes red := congrArg State.plRed hu
    have hlen : u.plLen = s.fbLen / 2 := congrArg State.plLen hu
    refine ⟨?_, nestedInitOutcome_after hdstate hbytes, fun hun => ?_, fun _ => ⟨hbw, hred, hlen⟩⟩
    · rw [hdstate, hbw, hred, hlen]
      exact hu
    · exact absurd (hdstate.symm.trans hun) (dstateShown_ne_uninitialized s)

/-! ### The lists of the operations -/

theorem displayFrame1BBody_eq (s : State) : displayFrame1BBody s =
    nestedInit s ++ (showOneBit (frameBytes s) s ++ [StateWrite.refreshed, .consumed].map .write) := by
  simp [displayFrame1BBody]

theorem displayFrame4LBody_eq (s : State) : displayFrame4LBody s =
    nestedInit s ++ ([StateWrite.planes (deriveBw (frameBytes s)) (deriveRed (frameBytes s))].map .write ++
      (showFourLevel (deriveBw (frameBytes s)) (deriveRed (frameBytes s)) s ++
        [StateWrite.refreshed, .consumed].map .write)) := by
  simp [displayFrame4LBody]

theorem clear1BBody_eq (s : State) : clear1BBody s =
    nestedInit s ++ (showOneBit (whitePlane s.cfg) s ++ [StateWrite.refreshed].map .write) := by
  simp [clear1BBody]

theorem clear4LBody_eq (s : State) : clear4LBody s =
    nestedInit s ++ (showFourLevel (whitePlane s.cfg) (whitePlane s.cfg) s ++ [StateWrite.refreshed].map .write) := by
  simp [clear4LBody]

/-- SLEEP up to its write of Sleeping (41_protocol_driver R137). -/
def sleepSteps (c : Config) : List Micro := .call .deepSleep :: (c.sleepPowerOff ++
  [WireEvent.delay Config.tSleep, .busClose, .rst false, .dc false, .pinsRelease]).map .emit

theorem sleepBody_eq (c : Config) : sleepBody c = sleepSteps c ++ [StateWrite.sleeping].map .write := by
  simp [sleepBody, sleepSteps, delay, pinRst, pinDc]

theorem writesOf_sleepSteps (c : Config) : writesOf (sleepSteps c) = [] :=
  writesOf_emits (c.sleepPowerOff ++ _)

/-- The nested INIT starts with an event, the reset pulse's first. -/
theorem closesUntouched_nestedInit (s : State) {rest : List Micro} (h : closesUntouched rest = false) :
    closesUntouched (nestedInit s ++ rest) = false := by
  unfold nestedInit
  split
  · rfl
  · exact h

theorem closesUntouched_showFourLevel (bw red : List Byte) (s : State) (rest : List Micro) :
    closesUntouched (showFourLevel bw red s ++ rest) = false := by
  unfold showFourLevel recountBeforeRed
  split <;> rfl

theorem closesUntouched_sleepBody (c : Config) : closesUntouched (sleepBody c) = false := by
  rw [sleepBody, List.append_assoc]
  cases c.sleepPowerOff <;> rfl

theorem closesUntouched_displayFrame1BBody (s : State) : closesUntouched (displayFrame1BBody s) = false := by
  rw [displayFrame1BBody_eq]
  exact closesUntouched_nestedInit s rfl

theorem closesUntouched_displayFrame4LBody (s : State) : closesUntouched (displayFrame4LBody s) = false := by
  rw [displayFrame4LBody_eq]
  refine closesUntouched_nestedInit s (Bool.or_eq_false_iff.mpr ⟨rfl, ?_⟩)
  exact closesUntouched_showFourLevel _ _ s _

theorem closesUntouched_clear1BBody (s : State) : closesUntouched (clear1BBody s) = false := by
  rw [clear1BBody_eq]
  exact closesUntouched_nestedInit s rfl

theorem closesUntouched_clear4LBody (s : State) : closesUntouched (clear4LBody s) = false := by
  rw [clear4LBody_eq]
  exact closesUntouched_nestedInit s (closesUntouched_showFourLevel _ _ s _)

/-- Of the operations with no check but the attachment, one that runs has started on its list. -/
theorem started_of_attachedCheck {s t : State} {op : Instr} {body : List Micro} (hidle : s.seq = .idle)
    (h : whenIdle s (whenAttached s (start op body s)) = .next t) (ht : busyOp t = true) :
    t = { s with seq := .busy op 0 false body } := by
  cases whenAttached_busy ((whenIdle_of_idle _ hidle).symm.trans h) ht
  rfl

theorem attach_started {s t : State} (hidle : s.seq = .idle) (h : exec .attach s = .next t)
    (ht : busyOp t = true) : t = { s with seq := .busy .attach 0 false attachBody } := by
  by_cases hattached : s.attached = true
  · rw [exec_attach_of_attached hidle hattached] at h
    cases h
    exact absurd hidle ((busyOp_iff_not_idle s).mp ht)
  · rw [exec_attach_of_released hidle (Bool.eq_false_of_not_eq_true hattached)] at h
    cases h
    rfl

/-! ### The trace only grows -/

theorem trace_prefix_of_silent_or_emits {s t : State} (h : Silent s t ∨ Emits s t) : s.trace <+: t.trace := by
  obtain ⟨htrace, -⟩ | ⟨e, htrace, -⟩ := h
  · exact htrace ▸ List.prefix_rfl
  · exact ⟨[e], htrace.symm⟩

theorem exec_idle_trace {i : Instr} {s t : State} (hidle : s.seq = .idle) (h : exec i s = .next t) :
    t.trace = s.trace := by
  cases hi : isPanelCommand i with
  | true =>
    rw [exec_panel_idle hi hidle] at h
    cases h
  | false => exact (exec_host_silent hi h).1

theorem run_turns_trace (choices : List (Level × Bool)) {s u : State}
    (hrun : Host.Core.run Sys2Proof.core choices.length { s with inputs := turnsOf choices } = .next u) :
    s.trace <+: u.trace :=
  (run_turns_keeps (P := fun x => s.trace <+: x.trace)
    (fun hturn h => h.trans (trace_prefix_of_silent_or_emits hturn.silent_or_emits)) (fun _ _ h => h) choices hrun
    List.prefix_rfl).1

end Sys2Proof.Machine

section

open Sys2Proof Sys2Proof.Machine Sys2Proof.Safety

/-- Settles O36: a failing run fails at one element of the list the operation started on, which tells the writes that
were made and bounds the bytes; a failing turn is one equation of the sequencer. -/
theorem failingEventEndsTheOperation : Obligations.FailingEventEndsTheOperation := by
  constructor
  · intro s t u i choices hidle hexec hbusy hrun hend herr
    have hfailed {op : Instr} {body : List Micro} (ht : t = { s with seq := .busy op 0 false body })
        (hbody : closesUntouched body = false) : Failed s body u :=
      run_failed hidle hbody choices (ht ▸ hrun) hend herr
    refine ⟨exec_idle_trace hidle hexec ▸ run_turns_trace choices hrun, ?_, ?_, ?_, ?_⟩
    · rintro (rfl | rfl | rfl | rfl)
      · have hreset := hfailed (started_of_attachedCheck (body := resetPulse) hidle hexec hbusy) rfl
        exact hreset.eq_afterFailure (pre := resetPulse.dropLast) (ws := [.panelKnown]) rfl
      · have hsleep := hfailed (started_of_attachedCheck hidle hexec hbusy) (closesUntouched_sleepBody s.cfg)
        rw [sleepBody_eq] at hsleep
        exact hsleep.eq_afterFailure (writesOf_sleepSteps s.cfg)
      · have hwait := hfailed (started_of_attachedCheck (body := [.poll]) hidle hexec hbusy) rfl
        exact hwait.eq_afterFailure (pre := [.poll]) (ws := []) rfl
      · have hattach := hfailed (attach_started hidle hexec hbusy) rfl
        exact hattach.eq_afterFailure (pre := attachBody.dropLast) (ws := [.attached]) rfl
    · rintro fast rfl
      exact init_failed (hfailed (init_started hidle hexec hbusy) rfl)
    · rintro (rfl | rfl | rfl)
      · have hshow := hfailed (displayFrame1B_started hidle hexec hbusy) (closesUntouched_displayFrame1BBody s)
        exact show_failed_outcome rfl (displayFrame1BBody_eq s ▸ hshow)
      · have hshow := hfailed (clear1B_started hidle hexec hbusy) (closesUntouched_clear1BBody s)
        exact show_failed_outcome rfl (clear1BBody_eq s ▸ hshow)
      · have hshow := hfailed (clear4L_started hidle hexec hbusy) (closesUntouched_clear4LBody s)
        exact show_failed_outcome (showFourLevel_writes _ _ s) (clear4LBody_eq s ▸ hshow)
    · rintro rfl
      have hshow := hfailed (displayFrame4L_started hidle hexec hbusy) (closesUntouched_displayFrame4LBody s)
      exact show_failed_planes (showFourLevel_writes _ _ s) (displayFrame4LBody_eq s ▸ hshow)
  · intro s l rest op idx touched more hin
    have hstep : step s = advance l true { s with inputs := rest, done := false } := step_tick hin
    refine ⟨fun e he hseq => ?_, fun hseq => ?_, fun ms hseq => ?_⟩ <;> rw [hstep]
    · exact advance_emit_fails l hseq (canFail_of_not_delay he)
    · exact advance_poll_fails l hseq
    · exact advance_delay l true hseq

end
end

section
/-! PROOFS. The wait that never sees idle (O15): each turn with a busy sample leaves the sequencer in the same wait, so
no number of them ends the operation (70_reset_and_hazards R201). -/

namespace Sys2Proof.Machine

open Sys2Proof.Safety

/-- The operation waits for an idle line with `more` still to come: it samples next, or after the delay that follows a
busy sample (40_wire_framing R96). -/
inductive Waits (op : Instr) (more : List Micro) (s : State) : Prop where
  | sampling {idx : Nat} {touched : Bool} (h : s.seq = .busy op idx touched (.poll :: more))
  | delaying {idx : Nat} {touched : Bool}
      (h : s.seq = .busy op idx touched (.emit (.delay Config.tPoll) :: .poll :: more))

theorem Waits.busyOp_eq_true {op : Instr} {more : List Micro} {s : State} (h : Waits op more s) : busyOp s = true := by
  cases h with
  | sampling h | delaying h => simp [h]

/-- A sample that reads busy puts the delay, and the sample again, in front of the rest. -/
theorem runsTo_poll_busy {s : State} {op : Instr} {idx : Nat} {touched : Bool} {rest : List Micro}
    (h : s.seq = .busy op idx touched (.poll :: rest)) :
    runsTo s [.tick s.cfg.busyActive false]
      { s with
        seq := .busy op (idx + 1) true (.emit (.delay Config.tPoll) :: .poll :: rest)
        trace := s.trace ++ [.busy s.cfg.busyActive]
        done := false } := by
  refine runsTo_cons (fun ins => ?_) (runsTo_nil _)
  refine (advance_poll (s := s.taken ins s.freeCount) _ h).trans ?_
  simp only [State.taken, pollAgain_busy]
  rfl

/-- A turn of a wait in which the line reads busy leaves it in that wait, and `done` low. -/
theorem Waits.turn {op : Instr} {more : List Micro} {s : State} (h : Waits op more s) :
    ∃ t, runsTo s [.tick s.cfg.busyActive false] t ∧ Waits op more t ∧ t.cfg = s.cfg ∧ t.done = false := by
  cases h with
  | sampling h => exact ⟨_, runsTo_poll_busy h, .delaying rfl, rfl, rfl⟩
  | delaying h =>
    exact ⟨_, runsTo_emits [.delay Config.tPoll] s.cfg.busyActive h (List.cons_ne_nil _ _), .sampling rfl, rfl, rfl⟩

/-- A wait is still that wait after any number of turns in which the line reads busy. -/
theorem Waits.turns {op : Instr} {more : List Micro} (n : Nat) {s : State} (h : Waits op more s) :
    ∃ u, runsTo s (unfailingTurns (List.replicate n s.cfg.busyActive)) u ∧ Waits op more u ∧
      u.done = if n = 0 then s.done else false := by
  induction n generalizing s with
  | zero => exact ⟨s, runsTo_nil s, h, rfl⟩
  | succ n ih =>
    obtain ⟨t, hturn, hwaits, hcfg, hdone⟩ := h.turn
    obtain ⟨u, hturns, hu, hudone⟩ := ih hwaits
    rw [hcfg] at hturns
    refine ⟨u, runsTo_append hturn hturns, hu, ?_⟩
    simpa [hdone] using hudone

end Sys2Proof.Machine

section

open Sys2Proof Sys2Proof.Machine Sys2Proof.Safety

/-- Settles O15: the run of those turns ends in the wait it started in. -/
theorem waitIdleHasNoTimeout : Obligations.WaitIdleHasNoTimeout := by
  intro s op idx touched more n hseq
  obtain ⟨u, hturns, hwaits, hdone⟩ := (Waits.sampling hseq).turns n
  have hrun := hturns []
  rw [List.append_nil, unfailingTurns, List.length_map, List.length_replicate] at hrun
  exact ⟨{ u with inputs := [] }, hrun, hwaits.busyOp_eq_true, hdone⟩

end
end
